-- ==== Sys2Proof/Word.lean ====
section
/-! DEFINITION. The words of the link and of the site table, and the numbers that name the part's records. -/

namespace Sys2Proof

/-- One byte of a frame (R190). -/
abbrev Byte := BitVec 8

/-- A passage's tag, 1 to 65535 (R2). -/
abbrev Tag := BitVec 16

/-- The value of a site entry (R172). -/
abbrev SiteWord := BitVec 16

/-- The up-time in seconds, and the stamps taken from it (R197, R2). -/
abbrev Seconds := BitVec 32

/-- A lane number, 0 to 11 (R51). -/
abbrev LaneNo := Fin 12

/-- A barrier group number, 0 to 7 (R52). -/
abbrev GroupNo := Fin 8

/-- A detector input number, 0 to 15 (R76). -/
abbrev InputNo := Fin 16

/-- A lamp channel number, 0 to 47 (R90). -/
abbrev ChannelNo := Fin 48

/-- A signal head number, 0 to 13 (R91). -/
abbrev HeadNo := Fin 14

/-- A Start Window requester number, 0 to 12 (R161). -/
abbrev Requester := Fin 13

end Sys2Proof
end

