-- ==== Sys2Proof/Config.lean ====
section
/-! DEFINITION. What the spec leaves open (free values: opaque constants with no body) and the one bound that the
model itself fixes. -/

namespace Sys2Proof

/-- FREE VALUE (log entry 8): what the 110 entries of the stored copy hold after a store that a reset cut off or
that did not read back (R184). The argument is `State.nvmSerial`. -/
opaque Config.nvmImage : Nat → Vector SiteWord 110

/-- FREE VALUE (log entry 8): how far the stored check then lies from the check of those entries (R184). -/
opaque Config.nvmCheckError : Nat → BitVec 16

/-- FREE VALUE (log entry 9): whether a store completing at the given millisecond reads back, where the model's own
clock takes the completion (R184). -/
opaque Config.storeReadsBack : Nat → Bool

/-- DESIGN CHOICE (log entry 4): how many reactions one act may hold. -/
def Config.actBound : Nat := 600

end Sys2Proof
end

