-- ==== Sys2Proof/Syntax.lean ====
section
/-! DEFINITION. The commands and events of the PB412: one constructor of `Instr` for each row of
spec/opcode_table.json, with the operands its row takes. A link command's operands are the values of its
frame's body, as the bytes carry them (R195); a field event's operands name the input and its new level. -/

namespace Sys2Proof

/-- N or S: a leaf, and the pump and tail lock that belong to it (R114, R115). -/
inductive Side where
  | n | s
deriving DecidableEq, Repr

/-- The three locks (R115). -/
inductive LockId where
  | bolt | tailN | tailS
deriving DecidableEq, Repr

/-- A barrier arm's end switches (R52). -/
inductive ArmSwitch where
  | down | up
deriving DecidableEq, Repr

/-- A lock's end switches (R115). -/
inductive LockSwitch where
  | driven | withdrawn
deriving DecidableEq, Repr

/-- The direction of a leaf's travel and of its drive (R114, R116). -/
inductive Travel where
  | raise | lower
deriving DecidableEq, Repr

/-- The rows of spec/opcode_table.json. -/
inductive Instr where
  | powerOn
  | resetN
  | commandFrame (bytes : List Byte)
  | noOperation
  | readStatus
  | restart
  | bookPassage (tag : Tag) (direction cls : Byte) (angle : BitVec 16) (ready : Byte)
      (allowance : BitVec 16) (autoRetire : Byte)
  | amendPassage (tag : Tag) (mask direction cls : Byte) (angle : BitVec 16) (ready : Byte)
      (allowance : BitVec 16) (autoRetire : Byte)
  | markPassing (tag : Tag)
  | markCleared (tag : Tag)
  | retirePassage (tag : Tag)
  | readPassage (tag : Tag)
  | listPassages
  | callOpening
  | declareLastCall
  | abortOpening
  | readOpening
  | readLane (lane : Byte)
  | holdLane (lane holdDown : Byte)
  | releaseHold (lane : Byte)
  | releaseRoad
  | clearLaneFault (lane : Byte)
  | ackTramCount (lane : Byte)
  | readHead (head : Byte)
  | readChannel (channel : Byte)
  | proveHead (head : Byte)
  | clearLampFailure (channel : Byte)
  | clearLampCounts
  | readLeaves
  | resume
  | recover
  | readStartWindow
  | readSiteEntry (entry : Byte)
  | writeSiteEntry (entry : Byte) (value : SiteWord)
  | storeSiteTable
  | loadSiteTable
  | readAttention
  | ackAttention (factors : BitVec 16)
  | setAttentionFloor (floor : Byte)
  | uptimeAdvance
  | passageOverdue (tag : Tag)
  | joinDeadline
  | automaticCall
  | passageProceed
  | roadIntervalExpiry
  | directionChangeExpiry
  | clearConfirmExpiry
  | spanBeamInputChange (interrupted : Bool)
  | spanBeamInterrupted
  | spanBeamClear
  | amberExpiry (lane : LaneNo)
  | redExpiry (lane : LaneNo)
  | tramCommitExpiry (lane : LaneNo)
  | deckClearExpiry
  | barrierEndSwitchChange (group : GroupNo) (switch : ArmSwitch) (on : Bool)
  | barrierStrokeTimeout (group : GroupNo)
  | obstructionInputChange (group : GroupNo) (on : Bool)
  | obstructionClearExpiry (group : GroupNo)
  | detectorInputChange (input : InputNo) (active : Bool)
  | presenceFilterExpiry (input : InputNo)
  | presenceDurationAdvance (lane : LaneNo)
  | laneObstructed (lane : LaneNo)
  | entryPulse (lane : LaneNo)
  | exitPulse (lane : LaneNo)
  | pulseFilterRearm (input : InputNo)
  | flashPhaseChange
  | currentSenseChange (channel : ChannelNo) (present : Bool)
  | noCurrentExpiry (channel : ChannelNo)
  | darkCurrentExpiry (channel : ChannelNo)
  | testPulseEnd
  | periodicProvingExpiry
  | encoderStep (leaf : Side) (direction : Travel)
  | seatSwitchOn (leaf : Side)
  | seatSwitchOff (leaf : Side)
  | fullOpenSwitchOn (leaf : Side)
  | lockEndSwitchChange (lock : LockId) (switch : LockSwitch) (on : Bool)
  | lockStrokeTimeout (lock : LockId)
  | pumpRunningInputChange (pump : Side) (on : Bool)
  | pumpStartTimeout (pump : Side)
  | pairUnlock
  | channelClearExpiry
  | estopInputChange (active : Bool)
  | estopActive
  | estopReleased
  | motionPeriod
  | anemometerInputChange (active : Bool)
  | anemometerPulse
  | gateExpiry
  | startGrant
  | grantAgeOut
  | keySwitchInputChange (on : Bool)
  | keySwitchFilterExpiry
  | storeCompletion (readsBack : Bool)
  | fullOpenSwitchOff (leaf : Side)
  | powerFailure
deriving DecidableEq, Repr

end Sys2Proof
end

