-- ==== Sys2Proof/WellFormed.lean ====
section
/-! DEFINITION. Well-formed commands: the operand bytes that R194's third test asks about, those that the owning
section does not test itself, lie inside their coding. Every other operand is tested by the owning section or is
well-formed by its type. -/

namespace Sys2Proof

/-- A flag is coded 0 or 1 (R196). -/
def flagByte (b : Byte) : Bool := b == 0 || b == 1

/-- R194, third test. A body value that the command does not read (a field of AMEND PASSAGE whose mask flag is
clear) is not tested. -/
def Instr.wellFormed : Instr → Bool
  | .bookPassage _ _ _ _ ready _ autoRetire => flagByte ready && flagByte autoRetire
  | .amendPassage _ mask _ _ _ ready _ autoRetire =>
    (!mask.getLsbD 3 || flagByte ready) && (!mask.getLsbD 5 || flagByte autoRetire)
  | .holdLane _ holdDown => flagByte holdDown
  | .setAttentionFloor floor => floor.toNat ≤ 3
  | _ => true

end Sys2Proof
end

