-- ==== Sys2Proof/Decode.lean ====
section
/-! DEFINITION. Frames of the command link: their check (R192), the judging of a transaction's bytes (R191), the
decoding of a good frame into a command (R194, R195) and the frame that carries a command. The rows of
spec/opcode_table.json carry no bits, so no word of the table spells a command. -/

namespace Sys2Proof

/-- The two bytes of a 16-bit value, most significant first (R188). -/
def bytesOf16 (w : BitVec 16) : List Byte := [w.extractLsb' 8 8, w.extractLsb' 0 8]

/-- The value of two bytes, most significant first (R188). -/
def word16 (hi lo : Byte) : BitVec 16 := hi ++ lo

/-- One place of R192's shift: the polynomial 1021h enters when a 1 leaves the top. -/
def crcShift (r : BitVec 16) : BitVec 16 := if r.msb then (r <<< 1) ^^^ 0x1021 else r <<< 1

/-- One byte of R192: into the high byte by exclusive-or, then eight shifts. -/
def crcByte (r : BitVec 16) (b : Byte) : BitVec 16 :=
  Nat.repeat crcShift 8 (r ^^^ (b ++ (0 : Byte)))

/-- The check of R192 over a run of bytes, from FFFFh. -/
def crc (bytes : List Byte) : BitVec 16 := bytes.foldl crcByte 0xFFFF

/-- A frame of R190 with its check: first byte, body length, body, check. -/
def frame (head : Byte) (body : List Byte) : List Byte :=
  let start := head :: BitVec.ofNat 8 body.length :: body
  start ++ bytesOf16 (crc start)

/-- What R191 makes of the bytes of a transaction. -/
inductive Judged where
  | frameError
  | good (code : Byte) (body : List Byte)
deriving DecidableEq, Repr

/-- R191. Fewer than four bytes are fewer than n + 4 for every n; bytes after the check are ignored. -/
def judge : List Byte → Judged
  | code :: len :: rest =>
    if 48 < len.toNat then .frameError
    else if rest.length < len.toNat + 2 then .frameError
    else
      let body := rest.take len.toNat
      if (rest.drop len.toNat).take 2 = bytesOf16 (crc (code :: len :: body)) then .good code body
      else .frameError
  | _ => .frameError

/-- The command that a code and a body spell by the command summary (R195): none where the code is not in the
summary, `some none` where the body has another length than the summary gives. -/
def commandOf (code : Byte) (body : List Byte) : Option (Option Instr) :=
  let bare (i : Instr) : Option Instr := if body = [] then some i else none
  let byte (f : Byte → Instr) : Option Instr := match body with
    | [a] => some (f a)
    | _ => none
  let tagged (f : Tag → Instr) : Option Instr := match body with
    | [a, b] => some (f (word16 a b))
    | _ => none
  match code.toNat with
  | 0x00 => some (bare .noOperation)
  | 0x01 => some (bare .readStatus)
  | 0x02 => some (bare .restart)
  | 0x10 => some (match body with
    | [t1, t0, d, c, a1, a0, r, w1, w0, q] =>
      some (.bookPassage (word16 t1 t0) d c (word16 a1 a0) r (word16 w1 w0) q)
    | _ => none)
  | 0x11 => some (match body with
    | [t1, t0, m, d, c, a1, a0, r, w1, w0, q] =>
      some (.amendPassage (word16 t1 t0) m d c (word16 a1 a0) r (word16 w1 w0) q)
    | _ => none)
  | 0x12 => some (tagged .markPassing)
  | 0x13 => some (tagged .markCleared)
  | 0x14 => some (tagged .retirePassage)
  | 0x15 => some (tagged .readPassage)
  | 0x16 => some (bare .listPassages)
  | 0x20 => some (bare .callOpening)
  | 0x21 => some (bare .declareLastCall)
  | 0x22 => some (bare .abortOpening)
  | 0x23 => some (bare .readOpening)
  | 0x30 => some (byte .readLane)
  | 0x31 => some (match body with
    | [a, b] => some (.holdLane a b)
    | _ => none)
  | 0x32 => some (byte .releaseHold)
  | 0x33 => some (bare .releaseRoad)
  | 0x34 => some (byte .clearLaneFault)
  | 0x35 => some (byte .ackTramCount)
  | 0x40 => some (byte .readHead)
  | 0x41 => some (byte .readChannel)
  | 0x42 => some (byte .proveHead)
  | 0x43 => some (byte .clearLampFailure)
  | 0x44 => some (bare .clearLampCounts)
  | 0x50 => some (bare .readLeaves)
  | 0x51 => some (bare .resume)
  | 0x52 => some (bare .recover)
  | 0x58 => some (bare .readStartWindow)
  | 0x60 => some (byte .readSiteEntry)
  | 0x61 => some (match body with
    | [e, v1, v0] => some (.writeSiteEntry e (word16 v1 v0))
    | _ => none)
  | 0x62 => some (bare .storeSiteTable)
  | 0x63 => some (bare .loadSiteTable)
  | 0x70 => some (bare .readAttention)
  | 0x71 => some (match body with
    | [a, b] => some (.ackAttention (word16 a b))
    | _ => none)
  | 0x72 => some (byte .setAttentionFloor)
  | _ => none

/-- What R194 makes of a good frame, before the owning block has its say. -/
inductive Decoded where
  | unknownCommand
  | notPermitted
  | command (i : Instr)
deriving DecidableEq, Repr

/-- R194, in its order: the code, the body length, the coding of the bytes that the owning section does not test. -/
def decodeCommand (code : Byte) (body : List Byte) : Decoded :=
  match commandOf code body with
  | none => .unknownCommand
  | some none => .notPermitted
  | some (some i) => if i.wellFormed then .command i else .notPermitted

/-- The code and the body that carry a link command (R195); none for the rows that no frame carries. -/
def Instr.codeAndBody : Instr → Option (Byte × List Byte)
  | .noOperation => some (0x00, [])
  | .readStatus => some (0x01, [])
  | .restart => some (0x02, [])
  | .bookPassage t d c a r w q => some (0x10, bytesOf16 t ++ [d, c] ++ bytesOf16 a ++ [r] ++ bytesOf16 w ++ [q])
  | .amendPassage t m d c a r w q =>
    some (0x11, bytesOf16 t ++ [m, d, c] ++ bytesOf16 a ++ [r] ++ bytesOf16 w ++ [q])
  | .markPassing t => some (0x12, bytesOf16 t)
  | .markCleared t => some (0x13, bytesOf16 t)
  | .retirePassage t => some (0x14, bytesOf16 t)
  | .readPassage t => some (0x15, bytesOf16 t)
  | .listPassages => some (0x16, [])
  | .callOpening => some (0x20, [])
  | .declareLastCall => some (0x21, [])
  | .abortOpening => some (0x22, [])
  | .readOpening => some (0x23, [])
  | .readLane l => some (0x30, [l])
  | .holdLane l o => some (0x31, [l, o])
  | .releaseHold l => some (0x32, [l])
  | .releaseRoad => some (0x33, [])
  | .clearLaneFault l => some (0x34, [l])
  | .ackTramCount l => some (0x35, [l])
  | .readHead h => some (0x40, [h])
  | .readChannel c => some (0x41, [c])
  | .proveHead h => some (0x42, [h])
  | .clearLampFailure c => some (0x43, [c])
  | .clearLampCounts => some (0x44, [])
  | .readLeaves => some (0x50, [])
  | .resume => some (0x51, [])
  | .recover => some (0x52, [])
  | .readStartWindow => some (0x58, [])
  | .readSiteEntry e => some (0x60, [e])
  | .writeSiteEntry e v => some (0x61, e :: bytesOf16 v)
  | .storeSiteTable => some (0x62, [])
  | .loadSiteTable => some (0x63, [])
  | .readAttention => some (0x70, [])
  | .ackAttention f => some (0x71, bytesOf16 f)
  | .setAttentionFloor f => some (0x72, [f])
  | _ => none

/-- The command frame that carries a link command (R190, R195); empty for the rows that no frame carries. -/
def Instr.frameOf (i : Instr) : List Byte :=
  match i.codeAndBody with
  | some (code, body) => frame code body
  | none => []

/-- The rows of spec/opcode_table.json give no bits: no word of the table spells a command. -/
def decodeTableWord (_nbits _w : Nat) : Option Instr := none

end Sys2Proof
end

