-- ==== Sys2Proof/Machine/State.lean ====
section
/-! DEFINITION. The state of the PB412 as plain data: every record that the spec gives it, block by block
(00_scope 3.1), the queue of commands that wait, and the state right after reset. A figure that the spec defines as
a function of other state (an element's status, road secured, the ATTN line, a drive output) is a view of this state
(Machine/Flags.lean, Machine/Lamps.lean), so that it is held once; log entry 32 lists them. -/

namespace Sys2Proof.Machine

/-- No act of the PB412 ends in a fault of the model: the spec describes no condition that stops the part, and its
own fault states are state. So no constructor stands here, which is safe: nothing stops where the hardware goes on. -/
inductive Fault where
deriving DecidableEq, Repr

/-- Why a command has no meaning in the model. -/
inductive Refusal where
  /-- Raised by `exec` alone, for a row of the table that has no meaning yet. Safe: the model stops where the
  hardware goes on. -/
  | notModelled (mnemonic : String)
deriving DecidableEq, Repr

/-- A timer: stopped, or running with the moment it runs out, in milliseconds since the last reset (00_scope 5.6;
log entry 1). -/
abbrev Timer := Option Nat

/-! ### Clock, Command Link, Site Table Store -/

/-- `now`: milliseconds since the last reset. `uptime`: the up-time in seconds (R197). `uptimeDue`: the moment of
its next advance. -/
structure Clock where
  now : Nat
  uptime : Seconds
  uptimeDue : Nat
deriving DecidableEq, Repr

/-- R193, R199, R203. `factors` holds factor n at bit n, as every factor set of Section 11 does (R195); `sent` is
what the last transaction sent on SDO (log entry 10). -/
structure Link where
  response : List Byte
  sent : List Byte
  factors : BitVec 16
  floor : Nat
deriving DecidableEq, Repr

/-- The values of the 110 site entries (R172). -/
abbrev SiteTable := Vector SiteWord 110

/-- A store in progress (R183): the copy taken at its start, whether a write taken since changed the working copy
(R184), and the 200 ms to its completion. -/
structure StoreJob where
  copy : SiteTable
  dirty : Bool
  due : Nat
deriving DecidableEq, Repr

/-- The result of a completed store (R184). -/
inductive StoreResult where
  | good | failed
deriving DecidableEq, Repr

/-- R172, R181. The store status is STORING exactly while `store` is present. -/
structure SiteStore where
  working : SiteTable
  stored : SiteTable
  storedCheck : BitVec 16
  invalid : Bool
  unstored : Bool
  store : Option StoreJob
  lastResult : Option StoreResult
  keyRaw : Bool
  key : Bool
  keyTimer : Timer
deriving DecidableEq, Repr

/-! ### Passage Book -/

/-- The way a vessel passes (R2). -/
inductive Direction where
  | seaward | landward
deriving DecidableEq, Repr

/-- R2. -/
inductive PassageClass where
  | routine | priority | tow
deriving DecidableEq, Repr

/-- R2, R3. -/
inductive PassageStatus where
  | booked | ready | called | proceed | passing | cleared
deriving DecidableEq, Repr

/-- A live passage record (R2). The ready flag is clear exactly in BOOKED, so it is a view of the status. -/
structure Passage where
  tag : Tag
  slot : Fin 16
  direction : Direction
  cls : PassageClass
  angle : Nat
  allowance : Nat
  autoRetire : Bool
  status : PassageStatus
  bookedAt : Seconds
  readySince : Option Seconds
  openingNumber : Option Nat
  proceedAt : Option Seconds
  overdue : Bool
  clearedAt : Option Seconds
deriving DecidableEq, Repr

/-- R22. IDLE is the absence of the record. -/
inductive OpeningState where
  | called | raising | shipping | lastCall | lowering | releasing
deriving DecidableEq, Repr

/-- The opening record (R22). -/
structure Opening where
  number : Nat
  state : OpeningState
  batch : Nat
  target : Nat
  members : List Tag
  lastCall : Bool
  joinDeadline : Option Seconds
  serving : Option Direction
  previous : Option Direction
  directionTimer : Timer
  beamPassage : Option Tag
  confirmTimer : Timer
  forced : Bool
deriving DecidableEq, Repr

/-- R1, R4, R20, R22, R41. -/
structure Book where
  slots : Vector (Option Passage) 16
  waiting : List Tag
  clearedOrder : List Tag
  lastNumber : Nat
  opening : Option Opening
  roadTimer : Timer
deriving DecidableEq, Repr

/-- The span beam and its filter (R47); `true` is interrupted. -/
structure Beam where
  raw : Bool
  filtered : Bool
  timer : Timer
deriving DecidableEq, Repr

/-! ### Approach Controller -/

/-- R51. -/
inductive Approach where
  | north | south
deriving DecidableEq, Repr

/-- R51, R173 (ABSENT is `present` clear). -/
inductive LaneKind where
  | road | tram | foot
deriving DecidableEq, Repr

/-- R51. -/
inductive LaneRole where
  | entry | exit
deriving DecidableEq, Repr

/-- R51; `isOpen` is OPEN. -/
inductive LaneState where
  | isOpen | warning | clearing | securing | closed | releasing | held | fault
deriving DecidableEq, Repr

/-- R51. -/
inductive SubPhase where
  | amber | red
deriving DecidableEq, Repr

/-- R51, R63; `free` is NONE. -/
inductive Hold where
  | free | hold | holdDown
deriving DecidableEq, Repr

/-- R51. -/
inductive LaneFault where
  | barrierTimeout | barrierSwitches | tramCount | resetPosition
deriving DecidableEq, Repr

/-- A lane record (R51). The first six fields are copied from the lane's site entry. The presence flag is the
filtered state of the lane's presence input (R77). -/
structure Lane where
  present : Bool
  approach : Approach
  kind : LaneKind
  role : LaneRole
  group : Option GroupNo
  input1 : InputNo
  input2 : InputNo
  state : LaneState
  subPhase : Option SubPhase
  duration : Nat
  durationTimer : Timer
  obstructed : Bool
  count : Nat
  hold : Hold
  keptClosed : Bool
  cause : Option LaneFault
  timer : Timer
deriving DecidableEq, Repr

/-- R52. -/
inductive GroupState where
  | up | awaitDown | goingDown | down | awaitUp | goingUp | obstructed | stopped | fault
deriving DecidableEq, Repr

/-- R52. -/
inductive ArmStroke where
  | down | up
deriving DecidableEq, Repr

/-- R52. -/
inductive GroupFault where
  | barrierTimeout | barrierSwitches | resetPosition
deriving DecidableEq, Repr

/-- A barrier group record (R52). The drive output is LOWER exactly in GOING_DOWN and RAISE exactly in GOING_UP. -/
structure Group where
  state : GroupState
  downSwitch : Bool
  upSwitch : Bool
  obstruction : Bool
  strokeTimer : Timer
  clearTimer : Timer
  heldStroke : Option ArmStroke
  cause : Option GroupFault
deriving DecidableEq, Repr

/-- The deck clearing timer (R58). -/
inductive DeckTimer where
  | stopped
  | running (due : Nat)
  | expired
deriving DecidableEq, Repr

/-- R51 to R54, R58. -/
structure Road where
  lanes : Vector Lane 12
  groups : Vector Group 8
  deck : DeckTimer
  closureDemand : Bool
deriving DecidableEq, Repr

/-- R80. -/
inductive PulseFilter where
  | waiting | timing | counted
deriving DecidableEq, Repr

/-- A detector input with its filters (R77, R80). -/
structure Detector where
  level : Bool
  presence : Bool
  stability : Timer
  pulse : PulseFilter
  pulseTimer : Timer
deriving DecidableEq, Repr

/-! ### Signal Lamp Unit -/

/-- The element a channel serves, by its place in the head's element list, and the string it carries (R90, R174). -/
structure Assignment where
  head : HeadNo
  element : Nat
  standby : Bool
deriving DecidableEq, Repr

/-- R90. -/
inductive ChannelState where
  | good | failedOpen | failedStuck
deriving DecidableEq, Repr

/-- R90. -/
inductive LampDrive where
  | off | lit | test
deriving DecidableEq, Repr

/-- A lamp channel record (R90). -/
structure Channel where
  assignment : Option Assignment
  state : ChannelState
  drive : LampDrive
  sense : Bool
  noCurrent : Timer
  darkCurrent : Timer
  failures : Nat
deriving DecidableEq, Repr

/-- The aspects of R91, of every kind of head. -/
inductive Aspect where
  | dark | amber | redFlash | go | stop | prohibit | prepare | proceed | outOfService | flash
deriving DecidableEq, Repr

/-- R106; `stuck` tells FAILED_STUCK from FAILED_OPEN. -/
structure FirstFailure where
  channel : ChannelNo
  stuck : Bool
  time : Seconds
deriving DecidableEq, Repr

/-- R90, R91, R94, R98, R100, R106. -/
structure Lamps where
  channels : Vector Channel 48
  aspects : Vector Aspect 14
  phaseB : Bool
  flashTimer : Timer
  proving : List ChannelNo
  underTest : Option ChannelNo
  testTimer : Timer
  periodicTimer : Timer
  firstFailure : Option FirstFailure
deriving DecidableEq, Repr

/-! ### Leaf Motion Controller -/

/-- A leaf record (R114). Its angle is that of the period record, its enable a view of the pair state. -/
structure Leaf where
  count : Nat
  countValid : Bool
  seat : Bool
  fullOpen : Bool
  direction : Travel
  demand : Nat
deriving DecidableEq, Repr

/-- R115. -/
inductive LockState where
  | driven | withdrawn | stroking | fault
deriving DecidableEq, Repr

/-- R115. -/
inductive LockStroke where
  | withdraw | drive
deriving DecidableEq, Repr

/-- A lock record (R115). Its request is STANDING exactly while it has an entry in the Start Window's queue, HELD
while `held` is set, NONE otherwise; its drive output is its stroke while STROKING and OFF otherwise. -/
structure Lock where
  state : LockState
  stroke : Option LockStroke
  held : Bool
  drivenSwitch : Bool
  withdrawnSwitch : Bool
  timer : Timer
deriving DecidableEq, Repr

/-- R115. -/
inductive PumpState where
  | off | starting | running
deriving DecidableEq, Repr

/-- A pump record (R115). Its request is held as a lock's is; its motor output is on unless it is OFF. -/
structure Pump where
  state : PumpState
  held : Bool
  runningInput : Bool
  timer : Timer
deriving DecidableEq, Repr

/-- R117; `isOpen` is OPEN. -/
inductive PairState where
  | locked | unlocking | free | starting | raising | isOpen | lowering | seating | locking | halted | recovering
  | fault
deriving DecidableEq, Repr

/-- A halt cause (R117, R127). -/
inductive HaltCause where
  | estop | wind | channel | road
deriving DecidableEq, Repr

/-- The set of halt causes (R117). -/
structure HaltSet where
  estop : Bool
  wind : Bool
  channel : Bool
  road : Bool
deriving DecidableEq, Repr

/-- R117, R125. -/
inductive PairFault where
  | skewTrip | overtravel | encoderMismatch | lockTimeout | pumpTimeout | seatLost | positionUnknown
deriving DecidableEq, Repr

/-- R134. -/
inductive RecoveryStep where
  | withdraw | start | creep
deriving DecidableEq, Repr

/-- The pair record (R117). -/
structure Pair where
  state : PairState
  target : Option Nat
  interrupted : Option PairState
  halts : HaltSet
  channelTimer : Timer
  cause : Option PairFault
  step : Option RecoveryStep
  skewWarning : Bool
deriving DecidableEq, Repr

/-- R141; `both` is the lead leaf NONE, where the leaves are treated alike. -/
inductive Lead where
  | n | s | both
deriving DecidableEq, Repr

/-- The three limits of a period (R144 to R146). -/
structure Limits where
  dist : Nat
  wind : Nat
  limit : Nat
deriving DecidableEq, Repr

/-- The period record (R137). Its two leaf demands are those of the leaf records, which R149 keeps equal. -/
structure Period where
  number : BitVec 32
  countN : Nat
  countS : Nat
  angleN : Option Nat
  angleS : Option Nat
  skew : Option Nat
  lead : Option Lead
  limits : Option Limits
  pairDemand : Nat
  correction : Nat
deriving DecidableEq, Repr

/-- R114, R115, R117, R132, R137. -/
structure Motion where
  pair : Pair
  leafN : Leaf
  leafS : Leaf
  bolt : Lock
  tailN : Lock
  tailS : Lock
  pumpN : Pump
  pumpS : Pump
  estopRaw : Bool
  estop : Bool
  estopTimer : Timer
  period : Period
  rampBase : Nat
  periodTimer : Timer
deriving DecidableEq, Repr

/-! ### Wind Monitor, Start Window -/

/-- R152. -/
inductive WindFilter where
  | idle | qualifying | counted
deriving DecidableEq, Repr

/-- R152, R153, R155, R157. The reading and its validity are views of the list (R155). -/
structure Wind where
  raw : Bool
  filter : WindFilter
  pulseTimer : Timer
  counter : Nat
  gateTimer : Timer
  gates : List Nat
  high : Bool
deriving DecidableEq, Repr

/-- An entry of the grant-time list (R163). -/
structure Grant where
  stamp : BitVec 32
  requester : Requester
deriving DecidableEq, Repr

/-- R162, R163. `asked` is the model's own: the requesters that have joined the queue in the act in progress, which
stand in it in requester number order (R162; log entry 40). -/
structure Window where
  queue : List Requester
  grants : List Grant
  asked : List Requester
deriving DecidableEq, Repr

/-- The whole part. `pending` is the queue of commands that wait, first in, first out; `alive` says that power is
good and the part is out of reset (R188). -/
structure State where
  pending : List Instr
  alive : Bool
  clock : Clock
  link : Link
  site : SiteStore
  book : Book
  beam : Beam
  road : Road
  detectors : Vector Detector 16
  lamps : Lamps
  motion : Motion
  wind : Wind
  window : Window
  nvmSerial : Nat
deriving DecidableEq, Repr

/-! ### The state after reset

The raw input levels and the stored copy survive a reset and have no reset value in the spec: `State.reset` takes
a bridge at rest, seated, locked and with its arms up (log entry 6), and a stored copy of the factory values whose
check agrees (log entry 7). Every other value is the one that the rules of "after reset" give for those. -/

/-- The factory values (R172 to R175). -/
def SiteTable.factoryReset : SiteTable :=
  ⟨(([48000, 48000, 8200, 4500, 10, 80, 300, 1500, 32, 150, 400, 10, 8, 3000, 37, 100, 140, 160] : List SiteWord)
    ++ List.replicate 12 0x0F00 ++ [4, 8, 20, 12, 60, 20] ++ List.replicate 48 0xF000
    ++ [50, 2, 4, 900, 300, 120, 60, 10, 8, 4] ++ [1, 1, 2, 3, 2, 3, 3, 2, 2, 3, 3, 2, 3, 1, 3, 2]).toArray,
    by decide⟩

/-- A lane that is not present, as the factory lane entry 0F00h gives it (R173). -/
def Lane.absent : Lane where
  present := false
  approach := .north
  kind := .road
  role := .entry
  group := none
  input1 := 0
  input2 := 0
  state := .isOpen
  subPhase := none
  duration := 0
  durationTimer := none
  obstructed := false
  count := 0
  hold := .free
  keptClosed := false
  cause := none
  timer := none

/-- A group found UP at reset (R75). -/
def Group.foundUp : Group where
  state := .up
  downSwitch := false
  upSwitch := true
  obstruction := false
  strokeTimer := none
  clearTimer := none
  heldStroke := none
  cause := none

/-- R87, with the input inactive. -/
def Detector.atReset : Detector where
  level := false
  presence := false
  stability := none
  pulse := .counted
  pulseTimer := none

/-- R113, for an unassigned channel. -/
def Channel.atReset : Channel where
  assignment := none
  state := .good
  drive := .off
  sense := false
  noCurrent := none
  darkCurrent := none
  failures := 0

/-- R136, for a seated leaf. -/
def Leaf.seated : Leaf where
  count := 0
  countValid := true
  seat := true
  fullOpen := false
  direction := .raise
  demand := 0

/-- R136, for a lock found DRIVEN. -/
def Lock.foundDriven : Lock where
  state := .driven
  stroke := none
  held := false
  drivenSwitch := true
  withdrawnSwitch := false
  timer := none

/-- R136. -/
def Pump.atReset : Pump where
  state := .off
  held := false
  runningInput := false
  timer := none

/-- No halt cause (R117). -/
def HaltSet.empty : HaltSet := ⟨false, false, false, false⟩

/-- R136, for a pair found LOCKED. -/
def Pair.foundLocked : Pair where
  state := .locked
  target := none
  interrupted := none
  halts := HaltSet.empty
  channelTimer := none
  cause := none
  step := none
  skewWarning := false

/-- R137 after a reset with both counts valid. -/
def Period.atReset : Period where
  number := 0
  countN := 0
  countS := 0
  angleN := some 0
  angleS := some 0
  skew := some 0
  lead := none
  limits := none
  pairDemand := 0
  correction := 0

/-- The part right after reset (R21, R50, R75, R87, R113, R136, R137, R160, R171, R186, R193, R204). -/
def State.reset : State where
  pending := []
  alive := true
  clock := { now := 0, uptime := 0, uptimeDue := 1000 }
  link := { response := [0x00, 0x00, 0x1D, 0x0F], sent := [], factors := 0, floor := 0 }
  site :=
    { working := SiteTable.factoryReset, stored := SiteTable.factoryReset, storedCheck := 0x81AB
      invalid := false, unstored := false, store := none, lastResult := none
      keyRaw := false, key := false, keyTimer := none }
  book :=
    { slots := Vector.replicate 16 none, waiting := [], clearedOrder := [], lastNumber := 0, opening := none
      roadTimer := none }
  beam := { raw := false, filtered := false, timer := none }
  road :=
    { lanes := Vector.replicate 12 Lane.absent, groups := Vector.replicate 8 Group.foundUp, deck := .stopped
      closureDemand := false }
  detectors := Vector.replicate 16 Detector.atReset
  lamps :=
    { channels := Vector.replicate 48 Channel.atReset
      aspects := #v[.dark, .dark, .go, .go, .prohibit, .prohibit, .dark, .dark, .dark, .dark, .dark, .dark, .dark, .dark]
      phaseB := false, flashTimer := some 600, proving := [], underTest := none, testTimer := none
      periodicTimer := some 60000, firstFailure := none }
  motion :=
    { pair := Pair.foundLocked, leafN := Leaf.seated, leafS := Leaf.seated
      bolt := Lock.foundDriven, tailN := Lock.foundDriven, tailS := Lock.foundDriven
      pumpN := Pump.atReset, pumpS := Pump.atReset
      estopRaw := false, estop := false, estopTimer := none
      period := Period.atReset, rampBase := 0, periodTimer := some 20 }
  wind :=
    { raw := false, filter := .counted, pulseTimer := none, counter := 0, gateTimer := some 3000, gates := []
      high := false }
  window := { queue := [], grants := [], asked := [] }
  nvmSerial := 0

end Sys2Proof.Machine
end

