-- ==== Sys2Proof/Machine/Ops.lean ====
section
/-! DEFINITION. The named operations that every block uses: tables, timers and the clock, attention factors, the
response buffer, the site entries, and the records of State by number. -/

namespace Sys2Proof.Machine

/-! ### Tables -/

/-- A table with one function applied to every entry. -/
def mapTable {α β : Type} {n : Nat} (f : α → β) (v : Vector α n) : Vector β n :=
  ⟨(v.toList.map f).toArray, by simp⟩

/-- The table whose entry i is f i. -/
def table {α : Type} (n : Nat) (f : Fin n → α) : Vector α n :=
  ⟨((List.finRange n).map f).toArray, by simp⟩

/-- A table with one entry changed. -/
def modEntry {α : Type} {n : Nat} (v : Vector α n) (i : Fin n) (f : α → α) : Vector α n :=
  v.set i.val (f v[i]) i.isLt

/-! ### Outcomes -/

/-- Every meaning's shape: while the part is without power nothing acts (R188), otherwise the act is taken. -/
def act (s : State) (f : State → State) : Host.Outcome State Fault Refusal :=
  .next (if s.alive then f s else s)

/-! ### Clock and timers (00_scope 5.6) -/

/-- A timer started now, for a time in milliseconds. -/
def State.inMs (s : State) (ms : Nat) : Timer := some (s.clock.now + ms)

/-- A timer started now, for a time in seconds. -/
def State.inSeconds (s : State) (n : Nat) : Timer := s.inMs (1000 * n)

/-- The milliseconds that remain to a moment. -/
def State.untilMs (s : State) (due : Nat) : Nat := due - s.clock.now

/-- The clock moved up to a moment, never back (log entry 1). -/
def State.reach (s : State) (due : Nat) : State :=
  { s with clock := { s.clock with now := max s.clock.now due } }

/-- The expiry of a timer (00_scope 5.6): the clock reaches the moment the timer runs out and the effect follows.
A stopped timer does not run out, and nothing happens (log entry 5). -/
def State.expire (s : State) (t : Timer) (f : State → State) : State :=
  match t with
  | some due => f (s.reach due)
  | none => s

/-- The millisecond up-time (R163). -/
def State.uptimeMs (s : State) : BitVec 32 := BitVec.ofNat 32 s.clock.now

/-- The up-time seconds since a stamp, across the turn of the count (R197, R18; log entry 15). -/
def State.since (s : State) (stamp : Seconds) : Nat := (s.clock.uptime - stamp).toNat

/-! ### Attention factors (Section 11.8) -/

/-- The sixteen factors of Section 11.8. -/
inductive Factor where
  | openingState | passageSignalled | passageOverdue | channelAlert | laneObstructed | laneFault | headDark
  | lampFailed | skewWarning | motionFault | motionHalted | windHigh | eStop | storeDone | siteInvalid | frameError
deriving DecidableEq, Repr

/-- A factor's number (Section 11.8). -/
def Factor.number : Factor → Nat
  | .openingState => 0
  | .passageSignalled => 1
  | .passageOverdue => 2
  | .channelAlert => 3
  | .laneObstructed => 4
  | .laneFault => 5
  | .headDark => 6
  | .lampFailed => 7
  | .skewWarning => 8
  | .motionFault => 9
  | .motionHalted => 10
  | .windHigh => 11
  | .eStop => 12
  | .storeDone => 13
  | .siteInvalid => 14
  | .frameError => 15

/-- The factor set that holds one factor (R195). -/
def Factor.bit (f : Factor) : BitVec 16 := 1#16 <<< f.number

/-- A block raises a factor: it is pending from this act, once, whatever its level (R199). -/
def State.raise (s : State) (f : Factor) : State :=
  { s with link := { s.link with factors := s.link.factors ||| f.bit } }

/-- A factor raised where a condition holds. -/
def State.raiseIf (s : State) (b : Bool) (f : Factor) : State := if b then s.raise f else s

/-! ### The response buffer (Section 11.4) -/

/-- The result codes of R194. -/
inductive Result where
  | accepted | acceptedClamped | acceptedLeftOpening | frameError | unknownCommand | unknownEntry | noSuchRecord
  | duplicateTag | bookFull | busy | notPermitted | inTransit | heldDown | keyOff | inconsistent
deriving DecidableEq, Repr

/-- R194's result code table. -/
def Result.code : Result → Byte
  | .accepted => 0x00
  | .acceptedClamped => 0x01
  | .acceptedLeftOpening => 0x02
  | .frameError => 0x03
  | .unknownCommand => 0x04
  | .unknownEntry => 0x05
  | .noSuchRecord => 0x06
  | .duplicateTag => 0x07
  | .bookFull => 0x08
  | .busy => 0x09
  | .notPermitted => 0x0A
  | .inTransit => 0x0B
  | .heldDown => 0x0C
  | .keyOff => 0x0D
  | .inconsistent => 0x0E

/-- The response buffer takes the response of a command (R193). -/
def State.respond (s : State) (r : Result) (body : List Byte) : State :=
  { s with link := { s.link with response := frame r.code body } }

/-- A refused command leaves the state it names as it was and has an empty response body (R194, 00_scope 5.4). -/
def State.refuse (s : State) (r : Result) : State := s.respond r []

/-- A command taken with an empty response body. -/
def State.accept (s : State) : State := s.respond .accepted []

/-! ### Site entries (R172) -/

/-- The numeric entries of R172, by their numbers. -/
abbrev EntryNo := Fin 110

def Entry.countsFullN : EntryNo := 0
def Entry.countsFullS : EntryNo := 1
def Entry.angleFull : EntryNo := 2
def Entry.angleMinOpening : EntryNo := 3
def Entry.rampStep : EntryNo := 4
def Entry.creepSpeed : EntryNo := 5
def Entry.creepZone : EntryNo := 6
def Entry.slowdownSpan : EntryNo := 7
def Entry.skewGain : EntryNo := 8
def Entry.skewWarn : EntryNo := 9
def Entry.skewTrip : EntryNo := 10
def Entry.lockStrokeTimeout : EntryNo := 11
def Entry.pumpStartTimeout : EntryNo := 12
def Entry.beamGuardAngle : EntryNo := 13
def Entry.windFactor : EntryNo := 14
def Entry.windDerate : EntryNo := 15
def Entry.windStart : EntryNo := 16
def Entry.windStop : EntryNo := 17
def Entry.amberTime : EntryNo := 30
def Entry.redTime : EntryNo := 31
def Entry.deckClearTime : EntryNo := 32
def Entry.barrierStrokeTimeout : EntryNo := 33
def Entry.stallTime : EntryNo := 34
def Entry.tramCommitTime : EntryNo := 35
def Entry.flashRate : EntryNo := 84
def Entry.callLevel : EntryNo := 85
def Entry.batchLimit : EntryNo := 86
def Entry.maxWait : EntryNo := 87
def Entry.roadInterval : EntryNo := 88
def Entry.joinWindow : EntryNo := 89
def Entry.directionChange : EntryNo := 90
def Entry.clearConfirm : EntryNo := 91
def Entry.startWindow : EntryNo := 92
def Entry.startLimit : EntryNo := 93

/-- LANE_n (R173). -/
def Entry.lane (l : LaneNo) : EntryNo := ⟨18 + l.val, by omega⟩

/-- CHANNEL_n (R174). -/
def Entry.channel (c : ChannelNo) : EntryNo := ⟨36 + c.val, by omega⟩

/-- LEVEL_n (R175). -/
def Entry.level (f : Fin 16) : EntryNo := ⟨94 + f.val, by omega⟩

/-- The number that a table holds in an entry. -/
def SiteTable.num (t : SiteTable) (e : EntryNo) : Nat := t[e].toNat

/-- The value of a site entry in the working copy, which is what a rule means by the entry's name (00_scope 5.2). -/
def State.cfg (s : State) (e : EntryNo) : Nat := SiteTable.num s.site.working e

/-! ### Records by number -/

/-- A lane record (R51). -/
def State.lane (s : State) (l : LaneNo) : Lane := s.road.lanes[l]

/-- A lane record changed. -/
def State.modLane (s : State) (l : LaneNo) (f : Lane → Lane) : State :=
  { s with road := { s.road with lanes := modEntry s.road.lanes l f } }

/-- A barrier group record (R52). -/
def State.group (s : State) (g : GroupNo) : Group := s.road.groups[g]

/-- A barrier group record changed. -/
def State.modGroup (s : State) (g : GroupNo) (f : Group → Group) : State :=
  { s with road := { s.road with groups := modEntry s.road.groups g f } }

/-- A detector input (R76). -/
def State.detector (s : State) (i : InputNo) : Detector := s.detectors[i]

/-- A detector input changed. -/
def State.modDetector (s : State) (i : InputNo) (f : Detector → Detector) : State :=
  { s with detectors := modEntry s.detectors i f }

/-- A lamp channel record (R90). -/
def State.channel (s : State) (c : ChannelNo) : Channel := s.lamps.channels[c]

/-- A lamp channel record changed. -/
def State.modChannel (s : State) (c : ChannelNo) (f : Channel → Channel) : State :=
  { s with lamps := { s.lamps with channels := modEntry s.lamps.channels c f } }

/-- The passage in a slot that has a tag, if it has it. -/
def hasTag (t : Tag) : Option Passage → Option Passage
  | some p => if p.tag = t then some p else none
  | none => none

/-- The live passage of a tag (R1). -/
def State.passage (s : State) (t : Tag) : Option Passage := s.book.slots.toList.findSome? (hasTag t)

/-- The live passage of a tag changed. -/
def State.modPassage (s : State) (t : Tag) (f : Passage → Passage) : State :=
  let change (o : Option Passage) : Option Passage := o.map fun p => if p.tag = t then f p else p
  { s with book := { s.book with slots := mapTable change s.book.slots } }

/-- The slot of a tag's passage freed (R17). -/
def State.freeSlot (s : State) (t : Tag) : State :=
  let drop (o : Option Passage) : Option Passage := o.filter fun p => p.tag ≠ t
  { s with book := { s.book with slots := mapTable drop s.book.slots } }

/-- The opening record changed, where there is one. -/
def State.modOpening (s : State) (f : Opening → Opening) : State :=
  { s with book := { s.book with opening := s.book.opening.map f } }

/-- A leaf record (R114). -/
def State.leaf (s : State) : Side → Leaf
  | .n => s.motion.leafN
  | .s => s.motion.leafS

/-- A leaf record changed. -/
def State.modLeaf (s : State) (i : Side) (f : Leaf → Leaf) : State :=
  match i with
  | .n => { s with motion := { s.motion with leafN := f s.motion.leafN } }
  | .s => { s with motion := { s.motion with leafS := f s.motion.leafS } }

/-- A lock record (R115). -/
def State.lock (s : State) : LockId → Lock
  | .bolt => s.motion.bolt
  | .tailN => s.motion.tailN
  | .tailS => s.motion.tailS

/-- A lock record changed. -/
def State.modLock (s : State) (i : LockId) (f : Lock → Lock) : State :=
  match i with
  | .bolt => { s with motion := { s.motion with bolt := f s.motion.bolt } }
  | .tailN => { s with motion := { s.motion with tailN := f s.motion.tailN } }
  | .tailS => { s with motion := { s.motion with tailS := f s.motion.tailS } }

/-- A pump record (R115). -/
def State.pump (s : State) : Side → Pump
  | .n => s.motion.pumpN
  | .s => s.motion.pumpS

/-- A pump record changed. -/
def State.modPump (s : State) (i : Side) (f : Pump → Pump) : State :=
  match i with
  | .n => { s with motion := { s.motion with pumpN := f s.motion.pumpN } }
  | .s => { s with motion := { s.motion with pumpS := f s.motion.pumpS } }

/-- The pair record changed. -/
def State.modPair (s : State) (f : Pair → Pair) : State :=
  { s with motion := { s.motion with pair := f s.motion.pair } }

/-! ### The Start Window's queue (Sections 9.1, 9.2, 9.5) -/

/-- The requester number of a barrier group (R161). -/
def groupRequester (g : GroupNo) : Requester := ⟨g.val, by omega⟩

/-- The requester number of a lock (R161). -/
def lockRequester : LockId → Requester
  | .bolt => 8
  | .tailN => 9
  | .tailS => 10

/-- The requester number of a pump (R161). -/
def pumpRequester : Side → Requester
  | .n => 11
  | .s => 12

/-- Class LIFT stands ahead of class BARRIER (R161). -/
def isLift (r : Requester) : Bool := 8 ≤ r.val

/-- A request joins the others of its class: behind those that stood before the act, and in requester number order
among those that the act in progress has asked (R162). -/
def joinClass (asked q : List Requester) (r : Requester) : List Requester :=
  let behind (x : Requester) : Bool := asked.contains x && decide (r < x)
  q.takeWhile (!behind ·) ++ r :: q.dropWhile (!behind ·)

/-- A request joins the queue by its class; a request that already stands is ignored (R162). -/
def joinQueue (asked q : List Requester) (r : Requester) : List Requester :=
  if r ∈ q then q
  else if isLift r then joinClass asked (q.takeWhile isLift) r ++ q.dropWhile isLift
  else q.takeWhile isLift ++ joinClass asked (q.dropWhile isLift) r

/-- A requester's entry leaves the queue without a grant; the others close up (R166). -/
def leaveQueue (q : List Requester) (r : Requester) : List Requester := q.filter (· ≠ r)

/-- R162. -/
def State.request (s : State) (r : Requester) : State :=
  { s with window := { s.window with
    queue := joinQueue s.window.asked s.window.queue r
    asked := if r ∈ s.window.queue then s.window.asked else r :: s.window.asked } }

/-- The act is over: a request that joins from here on is of another act (R162). -/
def State.closeAct (s : State) : State := { s with window := { s.window with asked := [] } }

/-- R166. -/
def State.withdraw (s : State) (r : Requester) : State :=
  { s with window := { s.window with queue := leaveQueue s.window.queue r } }

/-- A requester has a request standing exactly while it has an entry in the queue (R115, R161). -/
def State.standing (s : State) (r : Requester) : Bool := r ∈ s.window.queue

end Sys2Proof.Machine
end

