-- ==== Sys2Proof/Machine/Flags.lean ====
section
/-! DEFINITION. The flags, statuses and demands that the spec defines as functions of the records (log entry 32),
and the conditions that its rules test. -/

namespace Sys2Proof.Machine

/-! ### Passages and the opening -/

/-- The ready flag is set in every status but BOOKED (R2). -/
def Passage.isReady (p : Passage) : Bool := p.status != .booked

/-- The status of a tag's passage. -/
def State.statusOf (s : State) (t : Tag) : Option PassageStatus := (s.passage t).map (·.status)

/-- The direction of a tag's passage. -/
def State.directionOf (s : State) (t : Tag) : Option Direction := (s.passage t).map (·.direction)

/-- The opening state, none for IDLE (R22). -/
def State.openingState (s : State) : Option OpeningState := s.book.opening.map (·.state)

/-- The member list, empty with no opening. -/
def State.members (s : State) : List Tag := (s.book.opening.map (·.members)).getD []

/-- The first member with a status. -/
def State.memberIn (s : State) (st : PassageStatus) : Option Tag :=
  s.members.find? fun t => s.statusOf t == some st

/-- R23. -/
def State.raiseDemand (s : State) : Bool :=
  match s.openingState with
  | some .raising | some .shipping | some .lastCall => true
  | _ => false

/-- R23. -/
def State.lowerDemand (s : State) : Bool := s.openingState == some .lowering

/-- The target published with the raise demand (R23). -/
def State.publishedTarget (s : State) : Option Nat :=
  if s.raiseDemand then s.book.opening.map (·.target) else none

/-- Number of passage slots in use (R1). -/
def State.slotsInUse (s : State) : Nat := (s.book.slots.toList.filter (·.isSome)).length

/-- The up-time has reached a deadline (R36), across the turn of the count (log entry 15). -/
def State.reached (s : State) (deadline : Seconds) : Bool := (s.clock.uptime - deadline).toNat < 2 ^ 31

/-! ### Wind (R155, R156) -/

/-- The wind reading: the largest gate value kept, 0 with none (R155). -/
def Wind.reading (w : Wind) : Nat := w.gates.foldl max 0

/-- The reading is valid exactly while four gate values are kept (R155). -/
def Wind.valid (w : Wind) : Bool := w.gates.length == 4

/-- Valid and below WIND_START (R24, R118, R131, R156). -/
def State.windCalm (s : State) : Bool := s.wind.valid && decide (s.wind.reading < s.cfg Entry.windStart)

/-- At or above WIND_STOP, or not valid (R127, R156). -/
def State.windStopping (s : State) : Bool := !s.wind.valid || decide (s.cfg Entry.windStop ≤ s.wind.reading)

/-- The wind-high condition as R157 finds it. -/
def State.windHighNow (s : State) : Bool := s.wind.valid && decide (s.cfg Entry.windStart ≤ s.wind.reading)

/-! ### The pair (Section 6) -/

/-- The pair state whose rules hold: in a STARTING entered on resumption the kept state (R127), in HALTED the
interrupted state (R125, R128). -/
def Pair.effective (p : Pair) : PairState :=
  match p.state with
  | .starting | .halted => p.interrupted.getD p.state
  | st => st

/-- A leaf's angle: that of the last motion period, absent while the count is not valid (R114; log entry 28). -/
def State.leafAngle (s : State) (i : Side) : Option Nat :=
  if (s.leaf i).countValid then
    match i with
    | .n => s.motion.period.angleN
    | .s => s.motion.period.angleS
  else none

/-- Both leaves rest on their seats. -/
def State.bothSeated (s : State) : Bool := (s.leaf .n).seat && (s.leaf .s).seat

/-- A leaf's drive enable (R117). -/
def State.driveEnable (s : State) : Bool :=
  match s.motion.pair.state with
  | .raising | .isOpen | .lowering | .seating => true
  | .recovering => s.motion.pair.step == some .creep
  | _ => false

/-- What a lock's actuator is told to do (R115). -/
def Lock.output (k : Lock) : Option LockStroke := if k.state == .stroking then k.stroke else none

/-- The state of a request as R115 reports it. -/
inductive RequestView where
  | none | standing | held
deriving DecidableEq, Repr

/-- R115: STANDING exactly while the requester has an entry in the queue. -/
def State.requestView (s : State) (r : Requester) (held : Bool) : RequestView :=
  if s.standing r then .standing else if held then .held else .none

/-- A leaf's angle is above BEAM_GUARD_ANGLE or absent (R127). -/
def State.aboveGuard (s : State) (i : Side) : Bool :=
  match s.leafAngle i with
  | some a => decide (s.cfg Entry.beamGuardAngle < a)
  | none => true

/-! ### Lanes and groups (Section 3) -/

/-- The present lanes that name a barrier group, in number order. -/
def State.lanesOf (s : State) (g : GroupNo) : List LaneNo :=
  (List.finRange 12).filter fun l => (s.lane l).present && (s.lane l).group == some g

/-- A group is in use when at least one present lane names it (R52). -/
def State.inUse (s : State) (g : GroupNo) : Bool := (s.lanesOf g) != []

/-- The present lanes, in number order. -/
def State.presentLanes (s : State) : List LaneNo := (List.finRange 12).filter fun l => (s.lane l).present

/-- The closure demand as R53 computes it from the opening and the pair. -/
def State.closureNow (s : State) : Bool :=
  (match s.openingState with
    | some .releasing | none => false
    | some _ => true) || s.motion.pair.state != .locked

/-- A lane's closing call (R53). -/
def State.closingCall (s : State) (l : LaneNo) : Bool := s.road.closureDemand || (s.lane l).hold != .free

/-- Road secured (R54). -/
def State.roadSecured (s : State) : Bool :=
  s.presentLanes.all fun l =>
    let x := s.lane l
    (x.state == .closed || x.state == .held) && (x.kind != .tram || x.count == 0)

/-- Every present ENTRY lane is CLOSED or HELD (R58). -/
def State.entriesClosed (s : State) : Bool :=
  s.presentLanes.all fun l =>
    let x := s.lane l
    x.role != .entry || x.state == .closed || x.state == .held

/-- Every present lane is OPEN, HELD or FAULT (R40). -/
def State.lanesBack (s : State) : Bool :=
  s.presentLanes.all fun l =>
    let x := s.lane l
    x.state == .isOpen || x.state == .held || x.state == .fault

/-- A ROAD or FOOT lane's presence flag is the filtered state of its input (R77). -/
def State.presence (s : State) (l : LaneNo) : Bool := (s.detector (s.lane l).input1).presence

/-- The role that a present lane gives an input (R76). -/
inductive InputRole where
  | presence | entry | exit
deriving DecidableEq, Repr

/-- The role of an input in one lane (R76). -/
def Lane.roleOf (x : Lane) (i : InputNo) : Option InputRole :=
  if !x.present then none
  else if x.kind == .tram then
    if x.input1 = i then some .entry else if x.input2 = i then some .exit else none
  else if x.input1 = i then some .presence else none

/-- The lane and the role of an input, none where it is unassigned (R76). -/
def State.inputRole (s : State) (i : InputNo) : Option (LaneNo × InputRole) :=
  (List.finRange 12).findSome? fun l => ((s.lane l).roleOf i).map fun r => (l, r)

/-! ### Lamps (Section 5) -/

/-- The number of elements of a head (R91). -/
def elementCount (h : HeadNo) : Nat :=
  if h.val ≤ 1 then 3 else if h.val ≤ 3 then 2 else if h.val ≤ 5 then 4 else 1

/-- The channel that carries an element's main or standby string (R92). -/
def Lamps.channelOf (u : Lamps) (h : HeadNo) (e : Nat) (standby : Bool) : Option ChannelNo :=
  (List.finRange 48).find? fun c => u.channels[c].assignment == some ⟨h, e, standby⟩

/-- R103. -/
inductive ElementStatus where
  | good | onStandby | dark
deriving DecidableEq, Repr

/-- A string that is assigned and GOOD; one that is not assigned counts as failed (R92). -/
def Lamps.stringGood (u : Lamps) (h : HeadNo) (e : Nat) (standby : Bool) : Bool :=
  (List.finRange 48).any fun c =>
    u.channels[c].assignment == some ⟨h, e, standby⟩ && u.channels[c].state == .good

/-- An element's status from its channels' states (R103). -/
def Lamps.elementStatus (u : Lamps) (h : HeadNo) (e : Nat) : ElementStatus :=
  if u.stringGood h e false then .good
  else if u.stringGood h e true then .onStandby
  else .dark

/-- A head is FAULTED while a channel assigned to it is FAILED_STUCK (R104). -/
def Lamps.headFaulted (u : Lamps) (h : HeadNo) : Bool :=
  (List.finRange 48).any fun c =>
    (u.channels[c].assignment.map (·.head)) == some h && u.channels[c].state == .failedStuck

/-- The elements of every head. -/
def allElements : List (HeadNo × Nat) :=
  (List.finRange 14).flatMap fun h => (List.range (elementCount h)).map fun e => (h, e)

/-- The elements a head's aspect lights in the current flash phase (R93). -/
def Aspect.lights (a : Aspect) (phaseB : Bool) (e : Nat) : Bool :=
  match a with
  | .dark => false
  | .amber => e == 0
  | .redFlash => if phaseB then e == 2 else e == 1
  | .go => e == 1
  | .stop => e == 0
  | .prohibit => e == 0 || e == 1
  | .prepare => e == 0 || e == 3
  | .proceed => e == 2 || e == 3
  | .outOfService => !phaseB && (e == 0 || e == 1)
  | .flash => !phaseB && e == 0

/-- An element's wanted state (R93). -/
def Lamps.wantedLit (u : Lamps) (h : HeadNo) (e : Nat) : Bool := u.aspects[h].lights u.phaseB e

/-- The shipping head of a direction (R45). -/
def Direction.head : Direction → HeadNo
  | .seaward => 4
  | .landward => 5

/-- The road warning head of an approach (R55, R91). -/
def Approach.warningHead : Approach → HeadNo
  | .north => 0
  | .south => 1

/-- The tram stop head of an approach (R91). -/
def Approach.tramHead : Approach → HeadNo
  | .north => 2
  | .south => 3

/-- Some element of a road warning head is DARK (R55). -/
def State.warningDark (s : State) (a : Approach) : Bool :=
  (List.range 3).any fun e => s.lamps.elementStatus a.warningHead e == .dark

/-- Both greens of a direction's shipping head are not DARK (R29). -/
def State.greensProven (s : State) (d : Direction) : Bool :=
  s.lamps.elementStatus d.head 2 != .dark && s.lamps.elementStatus d.head 3 != .dark

/-! ### Aspects asked for (R45, R73) -/

/-- R45, for the shipping head of a direction. A pair HALTED out of RECOVERING is in neither state of the first line
(log entry 44). -/
def State.shippingAspect (s : State) (d : Direction) : Aspect :=
  if s.site.invalid || s.motion.pair.state == .fault || s.motion.pair.state == .recovering then .outOfService
  else if (s.memberIn .proceed).any fun t => s.directionOf t == some d then .proceed
  else if s.members.head?.any fun t => s.statusOf t == some .called && s.directionOf t == some d then .prepare
  else .prohibit

/-- R73, for the road warning head of an approach. -/
def State.warningAspect (s : State) (a : Approach) : Aspect :=
  let entries := s.presentLanes.filter fun l =>
    (s.lane l).approach == a && (s.lane l).kind != .tram && (s.lane l).role == .entry
  if entries.any fun l => match (s.lane l).state with
      | .warning => (s.lane l).subPhase == some .red
      | .clearing | .securing | .closed => true
      | _ => false
  then .redFlash
  else if entries.any fun l => (s.lane l).state == .warning && (s.lane l).subPhase == some .amber then .amber
  else .dark

/-- R73, for the tram stop head of an approach. -/
def State.tramAspect (s : State) (a : Approach) : Aspect :=
  let trams := s.presentLanes.filter fun l => (s.lane l).approach == a && (s.lane l).kind == .tram
  if trams.all fun l => (s.lane l).state == .isOpen then .go else .stop

/-- R73, for a barrier arm head. -/
def State.armAspect (s : State) (g : GroupNo) : Aspect := if (s.group g).state == .up then .dark else .flash

/-- The aspect that the owning block asks for on a head (R45, R73). -/
def State.aspectFor (s : State) (h : HeadNo) : Aspect :=
  match h.val with
  | 0 => s.warningAspect .north
  | 1 => s.warningAspect .south
  | 2 => s.tramAspect .north
  | 3 => s.tramAspect .south
  | 4 => s.shippingAspect .seaward
  | 5 => s.shippingAspect .landward
  | n + 6 => if h : n < 8 then s.armAspect ⟨n, h⟩ else .dark

/-! ### The whole bridge -/

/-- The bridge is at rest (R176). -/
def State.atRest (s : State) : Bool :=
  s.book.opening.isNone
    && s.motion.pair.state == .locked
    && ((List.finRange 8).all fun g => !s.inUse g || (s.group g).state == .up || (s.group g).state == .down)
    && (s.presentLanes.all fun l =>
      match (s.lane l).state with
      | .warning | .clearing | .securing | .releasing => false
      | _ => true)
    && s.site.store.isNone

/-- The pending factors whose level is above the floor (R200, R201). -/
def State.signalled (s : State) : List (Fin 16) :=
  (List.finRange 16).filter fun f => s.link.factors.getLsbD f.val && decide (s.link.floor < s.cfg (Entry.level f))

/-- The ATTN line is asserted; it is high while the part is in reset (R200). -/
def State.attnLine (s : State) : Bool := s.alive && s.signalled != []

end Sys2Proof.Machine
end

