-- ==== Sys2Proof/Machine/Operands.lean ====
section
/-! DEFINITION. The coding of fields (R196, R205): the values that a command's body bytes name, the positions that a
response sends, and the packing of the lane and channel site entries. -/

namespace Sys2Proof.Machine

/-! ### What a body byte names -/

/-- A number below n, or nothing. -/
def finOf (n : Nat) (b : Byte) : Option (Fin n) := if h : b.toNat < n then some ⟨b.toNat, h⟩ else none

/-- R2's direction by its position (R196). -/
def directionNamed (b : Byte) : Option Direction :=
  match b.toNat with
  | 0 => some .seaward
  | 1 => some .landward
  | _ => none

/-- R2's class by its position (R196). -/
def classNamed (b : Byte) : Option PassageClass :=
  match b.toNat with
  | 0 => some .routine
  | 1 => some .priority
  | 2 => some .tow
  | _ => none

/-! ### Positions (R196) -/

def Direction.code : Direction → Nat
  | .seaward => 0
  | .landward => 1

def PassageClass.code : PassageClass → Nat
  | .routine => 0
  | .priority => 1
  | .tow => 2

def PassageStatus.code : PassageStatus → Nat
  | .booked => 0
  | .ready => 1
  | .called => 2
  | .proceed => 3
  | .passing => 4
  | .cleared => 5

/-- 0 is IDLE (R196). -/
def openingCode : Option OpeningState → Nat
  | none => 0
  | some .called => 1
  | some .raising => 2
  | some .shipping => 3
  | some .lastCall => 4
  | some .lowering => 5
  | some .releasing => 6

def LaneState.code : LaneState → Nat
  | .isOpen => 0
  | .warning => 1
  | .clearing => 2
  | .securing => 3
  | .closed => 4
  | .releasing => 5
  | .held => 6
  | .fault => 7

def SubPhase.code : SubPhase → Nat
  | .amber => 0
  | .red => 1

def Hold.code : Hold → Nat
  | .free => 0
  | .hold => 1
  | .holdDown => 2

def LaneFault.code : LaneFault → Nat
  | .barrierTimeout => 0
  | .barrierSwitches => 1
  | .tramCount => 2
  | .resetPosition => 3

def GroupState.code : GroupState → Nat
  | .up => 0
  | .awaitDown => 1
  | .goingDown => 2
  | .down => 3
  | .awaitUp => 4
  | .goingUp => 5
  | .obstructed => 6
  | .stopped => 7
  | .fault => 8

/-- OFF, LOWER, RAISE: LOWER only in GOING_DOWN and RAISE only in GOING_UP (R52). -/
def GroupState.driveCode : GroupState → Nat
  | .goingDown => 1
  | .goingUp => 2
  | _ => 0

def ArmStroke.code : ArmStroke → Nat
  | .down => 0
  | .up => 1

def GroupFault.code : GroupFault → Nat
  | .barrierTimeout => 0
  | .barrierSwitches => 1
  | .resetPosition => 2

def ChannelState.code : ChannelState → Nat
  | .good => 0
  | .failedOpen => 1
  | .failedStuck => 2

def LampDrive.code : LampDrive → Nat
  | .off => 0
  | .lit => 1
  | .test => 2

def ElementStatus.code : ElementStatus → Nat
  | .good => 0
  | .onStandby => 1
  | .dark => 2

/-- The position of an aspect in its head's aspect list (R91, R205). -/
def Aspect.code : Aspect → Nat
  | .dark => 0
  | .amber => 1
  | .redFlash => 2
  | .go => 0
  | .stop => 1
  | .prohibit => 0
  | .prepare => 1
  | .proceed => 2
  | .outOfService => 3
  | .flash => 1

def PairState.code : PairState → Nat
  | .locked => 0
  | .unlocking => 1
  | .free => 2
  | .starting => 3
  | .raising => 4
  | .isOpen => 5
  | .lowering => 6
  | .seating => 7
  | .locking => 8
  | .halted => 9
  | .recovering => 10
  | .fault => 11

/-- A set of named values as a bit set (R196). -/
def bits (flags : List Bool) : Nat := flags.foldr (fun b n => 2 * n + b.toNat) 0

def HaltSet.code (h : HaltSet) : Nat := bits [h.estop, h.wind, h.channel, h.road]

def PairFault.code : PairFault → Nat
  | .skewTrip => 0
  | .overtravel => 1
  | .encoderMismatch => 2
  | .lockTimeout => 3
  | .pumpTimeout => 4
  | .seatLost => 5
  | .positionUnknown => 6

def RecoveryStep.code : RecoveryStep → Nat
  | .withdraw => 0
  | .start => 1
  | .creep => 2

def Lead.code : Lead → Nat
  | .n => 0
  | .s => 1
  | .both => 2

def LockState.code : LockState → Nat
  | .driven => 0
  | .withdrawn => 1
  | .stroking => 2
  | .fault => 3

def LockStroke.code : LockStroke → Nat
  | .withdraw => 0
  | .drive => 1

/-- OFF, WITHDRAW, DRIVE (R115). -/
def outputCode : Option LockStroke → Nat
  | none => 0
  | some .withdraw => 1
  | some .drive => 2

def RequestView.code : RequestView → Nat
  | .none => 0
  | .standing => 1
  | .held => 2

def PumpState.code : PumpState → Nat
  | .off => 0
  | .starting => 1
  | .running => 2

/-! ### Fields of a response body (R196) -/

/-- A one-byte number. -/
def byteOf (n : Nat) : Byte := BitVec.ofNat 8 n

/-- A one-byte field, FFh when absent. -/
def optByte (o : Option Nat) : Byte := byteOf (o.getD 0xFF)

/-- A two-byte number, most significant byte first (R188). -/
def two (n : Nat) : List Byte := bytesOf16 (BitVec.ofNat 16 n)

/-- A four-byte number, most significant byte first (R188). -/
def four (n : Nat) : List Byte :=
  let w := BitVec.ofNat 32 n
  bytesOf16 (w.extractLsb' 16 16) ++ bytesOf16 (w.extractLsb' 0 16)

/-- A two-byte field, 0 when absent. -/
def optTwo (o : Option Nat) : List Byte := two (o.getD 0)

/-- A four-byte field, 0 when absent. -/
def optFour (o : Option Nat) : List Byte := four (o.getD 0)

/-- A timer in milliseconds, FFFFh when stopped. -/
def timerMs (s : State) (t : Timer) : List Byte := two ((t.map s.untilMs).getD 0xFFFF)

/-- A timer in whole seconds, FFFFh when stopped; a part of a second is rounded down (00_scope 5.1; log entry 23). -/
def timerSeconds (s : State) (t : Timer) : List Byte := two ((t.map fun due => s.untilMs due / 1000).getD 0xFFFF)

/-! ### Lane and channel entries (R173, R174, R205) -/

/-- A lane entry's kind, none for ABSENT. -/
def laneKind (w : SiteWord) : Option LaneKind :=
  match (w.extractLsb' 14 2).toNat with
  | 0 => none
  | 1 => some .road
  | 2 => some .tram
  | _ => some .foot

/-- A lane entry's approach. -/
def laneApproach (w : SiteWord) : Approach := if w.getLsbD 13 then .south else .north

/-- A lane entry's role. -/
def laneRole (w : SiteWord) : LaneRole := if w.getLsbD 12 then .exit else .entry

/-- A lane entry's group field, as a number. -/
def laneGroupField (w : SiteWord) : Nat := (w.extractLsb' 8 4).toNat

/-- A lane entry's barrier group, none for NONE. -/
def laneGroup (w : SiteWord) : Option GroupNo := finOf 8 (byteOf (laneGroupField w))

/-- A lane entry's first input. -/
def laneInput1 (w : SiteWord) : InputNo := (w.extractLsb' 4 4).toFin

/-- A lane entry's second input. -/
def laneInput2 (w : SiteWord) : InputNo := (w.extractLsb' 0 4).toFin

/-- Every field that is read names a value that exists: a present lane's group is 0 to 7 or NONE (R176, R205). -/
def laneNamesExist (w : SiteWord) : Bool :=
  (laneKind w).isNone || decide (laneGroupField w < 8) || laneGroupField w == 15

/-- The barrier group that a lane entry names, read from a present lane alone (R173). -/
def laneGroupRead (w : SiteWord) : Option GroupNo := if (laneKind w).isSome then laneGroup w else none

/-- The site fields of a lane record, from its entry (R51). -/
def Lane.withEntry (x : Lane) (w : SiteWord) : Lane :=
  { x with
    present := (laneKind w).isSome
    kind := (laneKind w).getD .road
    approach := laneApproach w
    role := laneRole w
    group := laneGroup w
    input1 := laneInput1 w
    input2 := laneInput2 w }

/-- A channel entry's head field, as a number. -/
def channelHeadField (w : SiteWord) : Nat := (w.extractLsb' 12 4).toNat

/-- A channel entry's element position. -/
def channelElement (w : SiteWord) : Nat := (w.extractLsb' 10 2).toNat

/-- The assignment that a channel entry gives, none for UNASSIGNED. -/
def channelAssignment (w : SiteWord) : Option Assignment :=
  (finOf 14 (byteOf (channelHeadField w))).map fun h => ⟨h, channelElement w, w.getLsbD 9⟩

/-- The head and the element position exist, or the channel is UNASSIGNED (R176, R205). -/
def channelNamesExist (w : SiteWord) : Bool :=
  match channelAssignment w with
  | some a => decide (a.element < elementCount a.head)
  | none => channelHeadField w == 15

end Sys2Proof.Machine
end

