-- ==== Sys2Proof/Machine/Book.lean ====
section
/-! DEFINITION. The Passage Book's own operations (Sections 1 and 2): the waiting list, calls, joins, the service of
members, returns and aborts, and what the opening does of itself in an act. -/

namespace Sys2Proof.Machine

/-! ### Waiting list (R4 to R6) -/

/-- A tag's passage is of class PRIORITY. -/
def State.isPriority (s : State) (t : Tag) : Bool := (s.passage t).any fun p => p.cls == .priority

/-- The waiting list replaced. -/
def State.setWaiting (s : State) (ts : List Tag) : State := { s with book := { s.book with waiting := ts } }

/-- A tag placed as a new booking or a change of section places it: after the last PRIORITY entry, or at the end (R5). -/
def State.placeNew (s : State) (t : Tag) : State :=
  let ws := s.book.waiting
  if s.isPriority t then s.setWaiting (ws.takeWhile s.isPriority ++ t :: ws.dropWhile s.isPriority)
  else s.setWaiting (ws ++ [t])

/-- A tag taken off the waiting list. -/
def State.unlist (s : State) (t : Tag) : State := s.setWaiting (s.book.waiting.filter (· ≠ t))

/-- Returning tags, in member-list order, go to the heads of their sections (R6). -/
def State.placeReturned (s : State) (ts : List Tag) : State :=
  let ws := s.book.waiting
  s.setWaiting (ts.filter s.isPriority ++ ws.takeWhile s.isPriority
    ++ ts.filter (fun t => !s.isPriority t) ++ ws.dropWhile s.isPriority)

/-! ### The opening's states (R22, R23) -/

/-- The opening enters a state: OPENING_STATE is raised, and entering LOWERING or RELEASING stops the
direction-change timer (R23, R33). -/
def State.enterOpening (s : State) (st : OpeningState) : State :=
  (s.modOpening fun o =>
    { o with
      state := st
      directionTimer := if st == .lowering || st == .releasing then none else o.directionTimer }).raise .openingState

/-- The opening record is removed and the road-interval timer started (R40, R41). -/
def State.removeOpening (s : State) : State :=
  State.raise { s with book := { s.book with
    opening := none
    roadTimer := s.inSeconds (s.cfg Entry.roadInterval) } } .openingState

/-! ### Calls (R24 to R26) -/

/-- The READY passages on the waiting list, in list order. -/
def State.readyTags (s : State) : List Tag := s.book.waiting.filter fun t => s.statusOf t == some .ready

/-- One of R24's three waiting conditions holds: a READY passage is PRIORITY, CALL_LEVEL passages are READY, or one has
been READY for MAX_WAIT. -/
def State.waitingCalls (s : State) : Bool :=
  s.readyTags.any s.isPriority
    || decide (s.cfg Entry.callLevel ≤ s.readyTags.length)
    || s.readyTags.any fun t => ((s.passage t).bind (·.readySince)).any fun r => decide (s.cfg Entry.maxWait ≤ s.since r)

/-- The conditions of an automatic call (R24). -/
def State.mayCall (s : State) : Bool :=
  s.book.opening.isNone && s.book.roadTimer.isNone && !s.site.invalid && s.motion.pair.state == .locked
    && s.windCalm && s.waitingCalls

/-- The number of the next opening (R25, first). -/
def Book.nextNumber (b : Book) : Nat := if b.lastNumber == 65535 then 1 else b.lastNumber + 1

/-- The tags that a call chooses: READY passages in list order up to the batch limit, those of the first one's
direction first (R25, second to fourth). -/
def State.chosen (s : State) : List Tag :=
  let ts := s.readyTags.take (s.cfg Entry.batchLimit)
  let first := ts.head?.bind s.directionOf
  ts.filter (fun t => s.directionOf t == first) ++ ts.filter fun t => s.directionOf t != first

/-- A passage becomes CALLED in an opening (R25, R35). -/
def State.becomeCalled (n : Nat) (s : State) (t : Tag) : State :=
  s.modPassage t fun p => { p with status := .called, openingNumber := some n }

/-- The opening record that a call forms (R25). -/
def State.calledOpening (s : State) : Opening where
  number := s.book.nextNumber
  state := .called
  batch := s.cfg Entry.batchLimit
  target := s.chosen.foldl (fun a t => max a (((s.passage t).map (·.angle)).getD 0)) 0
  members := s.chosen
  lastCall := decide (s.cfg Entry.batchLimit ≤ s.chosen.length)
  joinDeadline := none
  serving := none
  previous := none
  directionTimer := none
  beamPassage := none
  confirmTimer := none
  forced := false

/-- A call: the opening is formed in one act (R25). -/
def State.callOpening (s : State) : State :=
  let o := s.calledOpening
  let t := o.members.foldl (State.becomeCalled o.number) (s.setWaiting (s.book.waiting.filter fun t => t ∉ o.members))
  State.raise { t with book := { t.book with lastNumber := o.number, opening := some o } } .openingState

/-! ### Joins (R35) -/

/-- A passage that has become READY is offered to an opening in SHIPPING: it joins at the tail where its angle and the
batch limit allow, and a join that fills the list sets the last-call flag (R35). -/
def State.offer (s : State) (t : Tag) : State :=
  match s.book.opening, s.passage t with
  | some o, some p =>
    if o.state == .shipping && p.status == .ready && decide (p.angle ≤ o.target) && decide (o.members.length < o.batch)
    then
      ((State.becomeCalled o.number (s.unlist t) t).modOpening fun o =>
        { o with
          members := o.members ++ [t]
          lastCall := o.lastCall || decide (o.batch ≤ o.members.length + 1) })
    else s
  | _, _ => s

/-! ### Service (R29 to R34) -/

/-- The head member. -/
def State.headMember (s : State) : Option Tag := s.members.head?

/-- The conditions of giving the head member PROCEED (R29). -/
def State.mayProceed (s : State) : Bool :=
  match s.book.opening, s.headMember with
  | some o, some t =>
    match s.passage t with
    | some p =>
      p.status == .called && (o.state == .shipping || o.state == .lastCall)
        && s.motion.pair.state == .isOpen && !s.motion.estop && s.greensProven p.direction
        && (o.directionTimer.isNone || o.previous == some p.direction)
    | none => false
  | _, _ => false

/-- The head member is given PROCEED (R29). -/
def State.giveProceed (s : State) : State :=
  match s.headMember with
  | none => s
  | some t =>
    ((s.modPassage t fun p => { p with status := .proceed, proceedAt := some s.clock.uptime }).modOpening fun o =>
      { o with
        serving := s.directionOf t
        joinDeadline := o.joinDeadline <|> some (s.clock.uptime + BitVec.ofNat 32 (s.cfg Entry.joinWindow))
      }).raise .passageSignalled

/-- A member in PROCEED is sent back to CALLED, keeping its place and its overdue flag (R30). -/
def State.takeProceed (s : State) (t : Tag) : State :=
  (s.modPassage t fun p => { p with status := .called, proceedAt := none }).modOpening fun o => { o with serving := none }

/-- A tag leaves the member list, which closes up (R34). -/
def State.leaveMembers (s : State) (t : Tag) : State :=
  s.modOpening fun o => { o with members := o.members.filter (· ≠ t) }

/-- The end of a member's service (R33). -/
def State.endService (s : State) : State :=
  s.modOpening fun o =>
    { o with
      previous := o.serving
      serving := none
      directionTimer := s.inSeconds (s.cfg Entry.directionChange) }

/-- A retired passage is gone from the book (R17). -/
def State.retire (s : State) (t : Tag) : State :=
  let u := (s.freeSlot t).unlist t
  { u with book := { u.book with clearedOrder := u.book.clearedOrder.filter (· ≠ t) } }

/-- A member in PASSING enters CLEARED (R16), its service ends (R33), and it is the beam passage no longer (R32). With
auto-retire it is retired in the same act (R16, R17). -/
def State.enterCleared (s : State) (t : Tag) : State :=
  let auto := (s.passage t).any (·.autoRetire)
  let a := s.modPassage t fun p => { p with status := .cleared, clearedAt := some s.clock.uptime }
  let b := { a with book := { a.book with clearedOrder := a.book.clearedOrder ++ [t] } }
  let c := (b.leaveMembers t).endService
  let d := c.modOpening fun o =>
    if o.beamPassage = some t then { o with beamPassage := none, confirmTimer := none } else o
  if auto then d.retire t else d

/-! ### Returns (R42) -/

/-- A passage that returns from an opening to READY keeps ready-since and overdue (R3, R42). -/
def State.becomeReturned (s : State) (t : Tag) : State :=
  s.modPassage t fun p => { p with status := .ready, openingNumber := none, proceedAt := none }

/-- Members return: every member in CALLED or PROCEED becomes READY and goes back on the waiting list (R42). -/
def State.membersReturn (s : State) : State :=
  let back := s.members.filter fun t => s.statusOf t == some .called || s.statusOf t == some .proceed
  let proceeding := (s.memberIn .proceed).isSome
  ((back.foldl State.becomeReturned s).placeReturned back).modOpening fun o =>
    { o with
      members := o.members.filter fun t => t ∉ back
      serving := if proceeding then none else o.serving }

/-! ### Overdue (R18) -/

/-- The overdue test of one passage record (R18). -/
def State.isLate (s : State) (p : Passage) : Bool :=
  (p.status == .proceed || p.status == .passing)
    && p.proceedAt.any fun at' => decide (p.allowance < s.since at')

/-- The overdue test of a tag's passage: the flag becomes set, and PASSAGE_OVERDUE is raised where it was clear (R18). -/
def State.testOverdue (s : State) (t : Tag) : State :=
  if (s.passage t).any fun p => s.isLate p && !p.overdue then
    (s.modPassage t fun p => { p with overdue := true }).raise .passageOverdue
  else s

/-- The overdue test of every live passage (R18). -/
def State.testAllOverdue (s : State) : State :=
  (s.book.slots.toList.filterMap (·.map (·.tag))).foldl State.testOverdue s

/-! ### Required angle and transit allowance (R7, R8) -/

/-- The required angle kept for a class (R7). -/
def State.keptAngle (s : State) (c : PassageClass) (given : Nat) : Nat :=
  if c == .tow then s.cfg Entry.angleFull
  else max (s.cfg Entry.angleMinOpening) (min given (s.cfg Entry.angleFull))

/-- The transit allowance kept (R7). -/
def keptAllowance (given : Nat) : Nat := max 60 (min given 1800)

/-- Every live passage's required angle brought into the range in force (R8). -/
def State.reclampAngles (s : State) : State :=
  let change (o : Option Passage) : Option Passage := o.map fun p => { p with angle := s.keptAngle p.cls p.angle }
  { s with book := { s.book with slots := mapTable change s.book.slots } }

/-! ### Reactions of the opening -/

/-- The opening with its last-call flag set (R36). -/
def State.setLastCall (s : State) : State := s.modOpening fun o => { o with lastCall := true }

/-- The pair in FAULT: members return, the forced flag is set and the opening goes to LOWERING or RELEASING (R44). -/
def forcedReaction (s : State) (o : Opening) : Option State :=
  let force (u : State) : State := u.modOpening fun o => { o with forced := true }
  if s.motion.pair.state != .fault then none
  else
    match o.state with
    | .raising | .shipping | .lastCall => some ((force s.membersReturn.setLastCall).enterOpening .lowering)
    | .called => some ((force s.membersReturn).enterOpening .releasing)
    | .lowering => if o.forced then none else some (force s)
    | .releasing => none

/-- What the opening does by its state (R27, R28, R36, R38, R39, R40). Its removal asks R40's two conditions alone,
whatever the pair state (log entry 43). -/
def stateReaction (s : State) (o : Opening) : Option State :=
  match o.state with
  | .called =>
    if o.members = [] then some (s.enterOpening .releasing)
    else if s.roadSecured then some (s.enterOpening .raising)
    else none
  | .raising =>
    if o.members = [] then some (s.setLastCall.enterOpening .lowering)
    else if s.motion.pair.state == .isOpen then
      some (s.enterOpening (if o.lastCall then .lastCall else .shipping))
    else none
  | .shipping =>
    if o.lastCall then some (s.enterOpening .lastCall)
    else if o.members = [] && o.joinDeadline.isNone then some s.setLastCall
    else none
  | .lastCall => if o.members = [] then some (s.enterOpening .lowering) else none
  | .lowering => if s.motion.pair.state == .locked then some (s.enterOpening .releasing) else none
  | .releasing => if s.lanesBack && o.members = [] then some s.removeOpening else none

/-- A member in PROCEED with the E-stop active, or with the pair not OPEN, is sent back to CALLED (R30). -/
def returnReaction (s : State) : Option State :=
  if s.motion.estop || s.motion.pair.state != .isOpen then (s.memberIn .proceed).map s.takeProceed else none

/-- The up-time has reached the join deadline (R36). -/
def deadlineReaction (s : State) (o : Opening) : Option State :=
  if o.joinDeadline.any s.reached && !o.lastCall then some s.setLastCall else none

/-- What the opening does of itself; with none, an automatic call (R24). -/
def openingReaction (s : State) : Option State :=
  match s.book.opening with
  | none => if s.mayCall then some s.callOpening else none
  | some o =>
    forcedReaction s o <|> returnReaction s <|> deadlineReaction s o <|> stateReaction s o
      <|> (if s.mayProceed then some s.giveProceed else none)

end Sys2Proof.Machine
end

