-- ==== Sys2Proof/Machine/Lamps.lean ====
section
/-! DEFINITION. The Signal Lamp Unit's own operations (Section 5): driving the channels that the aspects light, the
proving list and the test under way, failures and their record. -/

namespace Sys2Proof.Machine

/-! ### Driving the channels (R95 to R97) -/

/-- A channel is wanted LIT: its element is wanted lit and it is the string that the element's status chooses (R95). -/
def Lamps.wants (u : Lamps) (c : ChannelNo) : Bool :=
  let x := u.channels[c]
  match x.assignment with
  | none => false
  | some a =>
    u.wantedLit a.head a.element && x.state == .good && (!a.standby || !u.stringGood a.head a.element false)

/-- The dark-current timer of a channel whose drive has just become OFF (R97). -/
def Channel.darkTimer (x : Channel) (s : State) : Timer :=
  if x.assignment.isSome && x.sense && x.state != .failedStuck then s.inMs 300 else none

/-- A channel driven LIT: its lit phase begins (R95, R96). -/
def Channel.light (x : Channel) (s : State) : Channel :=
  { x with drive := .lit, darkCurrent := none, noCurrent := if x.sense then none else s.inMs 300 }

/-- A channel driven OFF (R96, R97). -/
def Channel.darken (x : Channel) (s : State) : Channel :=
  { x with drive := .off, noCurrent := none, darkCurrent := x.darkTimer s }

/-- The test under way ends with no channel under test (R99). -/
def State.endTest (s : State) : State := { s with lamps := { s.lamps with underTest := none, testTimer := none } }

/-- One channel's drive recomputed (R95): LIT where it is wanted LIT, abandoning its test (R99); OFF where it was LIT
and is wanted no longer. -/
def State.redrive (s : State) (c : ChannelNo) : State :=
  let x := s.channel c
  if s.lamps.wants c then
    if x.drive == .lit then s
    else
      let t := s.modChannel c (·.light s)
      if s.lamps.underTest == some c then t.endTest else t
  else if x.drive == .lit then s.modChannel c (·.darken s)
  else s

/-- Every channel's drive recomputed. -/
def State.redriveAll (s : State) : State := (List.finRange 48).foldl State.redrive s

/-! ### The proving list (R98 to R102) -/

/-- A channel is taken for a test: its drive becomes TEST for 50 ms (R99). -/
def State.beginTest (s : State) (c : ChannelNo) (rest : List ChannelNo) : State :=
  let t := s.modChannel c fun x => { x with drive := .test, darkCurrent := none }
  { t with lamps := { t.lamps with proving := rest, underTest := some c, testTimer := s.inMs 50 } }

/-- A channel at the head of the list is skipped: unassigned, FAILED_STUCK or LIT (R98). A FAILED_OPEN one is tested
(R98 to R101, against the last sentence of R90; log entry 45). -/
def Channel.skipped (x : Channel) : Bool := x.assignment.isNone || x.state == .failedStuck || x.drive == .lit

/-- The list worked from its head until a channel can be tested (R98). -/
def State.takeTest (s : State) : List ChannelNo → State
  | [] => { s with lamps := { s.lamps with proving := [] } }
  | c :: rest => if (s.channel c).skipped then s.takeTest rest else s.beginTest c rest

/-- Whenever no test runs the next listed channel is taken (R98). -/
def State.nextTest (s : State) : State := if s.lamps.underTest.isNone then s.takeTest s.lamps.proving else s

/-- The aspects asked for are handed over (R45, R73, R91). -/
def State.setAspects (s : State) : State := { s with lamps := { s.lamps with aspects := table 14 s.aspectFor } }

/-- The unit's part of an act: the aspects asked for, then the drives, then the next test (R91, R95, R98). -/
def State.lampStage (s : State) : State := s.setAspects.redriveAll.nextTest

/-- A channel can be placed on the list: assigned, not FAILED_STUCK, OFF and not under test (R100, R101; log entry
45). -/
def State.placeable (s : State) (c : ChannelNo) : Bool :=
  let x := s.channel c
  x.assignment.isSome && x.state != .failedStuck && x.drive == .off && s.lamps.underTest != some c

/-- The proving list replaced. -/
def State.setProving (s : State) (cs : List ChannelNo) : State := { s with lamps := { s.lamps with proving := cs } }

/-! ### Failures (R103, R105 to R107) -/

/-- Elements that are DARK in one state of the unit and were not in another (R103). -/
def newlyDark (before after : Lamps) : Bool :=
  allElements.any fun (h, e) => after.elementStatus h e == .dark && before.elementStatus h e != .dark

/-- HEAD_DARK is raised where an element has entered DARK since an earlier state of the unit (R103, R107). -/
def State.raiseDark (s : State) (before : Lamps) : State := s.raiseIf (newlyDark before s.lamps) .headDark

/-- A channel enters a failed state (R96, R97, R105 to R107): its drive OFF and its timers stopped, counted up to 15,
recorded where the first-failure record is absent, and LAMP_FAILED raised. -/
def State.channelFails (s : State) (c : ChannelNo) (stuck : Bool) : State :=
  let t := s.modChannel c fun x =>
    { x with
      state := if stuck then .failedStuck else .failedOpen
      drive := .off
      noCurrent := none
      darkCurrent := none
      failures := min 15 (x.failures + 1) }
  let first := t.lamps.firstFailure <|> some { channel := c, stuck := stuck, time := s.clock.uptime }
  (State.raise { t with lamps := { t.lamps with firstFailure := first } } .lampFailed).raiseDark s.lamps

/-- A flash half-period in milliseconds (R94). -/
def State.halfPeriod (s : State) : Nat := 30000 / s.cfg Entry.flashRate

/-! ### Change of assignment (R112) -/

/-- A channel brought to a fresh state by a change of its entry: off the list and out of a test, at the end of the
list where it is assigned; its failure counter and its sense are kept (R112). -/
def State.freshChannel (s : State) (c : ChannelNo) (w : Option Assignment) : State :=
  let t := s.modChannel c fun x =>
    { x with assignment := w, state := .good, drive := .off, noCurrent := none, darkCurrent := none }
  let u := if s.lamps.underTest == some c then t.endTest else t
  let rest := u.lamps.proving.filter (· ≠ c)
  u.setProving (if w.isSome then rest ++ [c] else rest)

end Sys2Proof.Machine
end

