-- ==== Sys2Proof/Machine/Lanes.lean ====
section
/-! DEFINITION. The Approach Controller's own operations (Section 3): how a lane closes and releases, how an arm is
asked for a stroke, and what the closure demand, a grant, an end switch, a fault and the E-stop do to lanes and
groups. -/

namespace Sys2Proof.Machine

/-! ### A lane's states -/

/-- A lane enters a state: the warning sub-phase and the fault cause are absent, the lane timer is stopped and kept
closed is clear (R51). -/
def Lane.enter (x : Lane) (st : LaneState) : Lane :=
  { x with state := st, subPhase := none, cause := none, timer := none, keptClosed := false }

/-- Where a lane's closing ends: CLOSED, or HELD under a hold (R57, R59). -/
def Lane.closedOrHeld (x : Lane) : Lane := x.enter (if x.hold == .free then .closed else .held)

/-- A lane enters CLEARING; a TRAM lane starts its commitment time (R57, R85). -/
def State.enterClearing (s : State) (l : LaneNo) : State :=
  s.modLane l fun x =>
    { x.enter .clearing with timer := if x.kind == .tram then s.inSeconds (s.cfg Entry.tramCommitTime) else none }

/-- An OPEN lane whose closing call is true begins the closing sequence of its kind and role (R55, R57, R58). -/
def State.beginClosing (s : State) (l : LaneNo) : State :=
  let x := s.lane l
  if x.kind != .tram && x.role == .entry then
    s.modLane l fun x =>
      { x.enter .warning with subPhase := some .amber, timer := s.inSeconds (s.cfg Entry.amberTime) }
  else s.enterClearing l

/-- A lane enters FAULT with a cause: timer stopped, sub-phase absent, hold kept, kept closed clear (R69, R82). -/
def State.laneToFault (s : State) (l : LaneNo) (c : LaneFault) : State :=
  s.modLane l fun x => { x.enter .fault with cause := some c }

/-- A lane that no command or fault moves: HELD under HOLD_DOWN (R63). -/
def Lane.heldDown (x : Lane) : Bool := x.state == .held && x.hold == .holdDown

/-! ### Asking an arm (R59, R61, R65, R70) -/

/-- A group awaits the grant of a stroke and requests it, or holds its request while the E-stop is active (R70). Its
obstruction-clear timer is stopped (R61). -/
def State.askArm (s : State) (g : GroupNo) (stroke : ArmStroke) : State :=
  let t := s.modGroup g fun x =>
    { x with
      state := match stroke with
        | .down => .awaitDown
        | .up => .awaitUp
      clearTimer := none
      heldStroke := if s.motion.estop then some stroke else none }
  if s.motion.estop then t else t.request (groupRequester g)

/-- A request is withdrawn, or a held stroke made absent, and the group returns to where it stood (R60, R61). -/
def State.unaskArm (s : State) (g : GroupNo) (st : GroupState) : State :=
  (s.withdraw (groupRequester g)).modGroup g fun x => { x with state := st, heldStroke := none }

/-- A group settles in DOWN or UP: drive off, timers stopped, no held stroke, no fault. -/
def Group.settle (x : Group) (st : GroupState) : Group :=
  { x with state := st, strokeTimer := none, clearTimer := none, heldStroke := none, cause := none }

/-- What a group entering DOWN does to a lane in SECURING: CLOSED or HELD, or RELEASING where its closing call has
fallen (R59, R60). -/
def State.laneAtDown (s : State) (l : LaneNo) : State :=
  if (s.lane l).state == .securing then
    if s.closingCall l then s.modLane l Lane.closedOrHeld else s.modLane l (·.enter .releasing)
  else s

/-- A group enters DOWN (R59, R65). -/
def State.groupDown (s : State) (g : GroupNo) : State :=
  (s.lanesOf g).foldl State.laneAtDown (s.modGroup g (·.settle .down))

/-- A group enters UP, and its lanes in RELEASING enter OPEN (R61, R65). -/
def State.groupUp (s : State) (g : GroupNo) : State :=
  (s.lanesOf g).foldl
    (fun s l => if (s.lane l).state == .releasing then s.modLane l (·.enter .isOpen) else s)
    (s.modGroup g (·.settle .up))

/-- The lane fault cause that a group's fault gives (R69). -/
def GroupFault.forLane : GroupFault → LaneFault
  | .barrierTimeout => .barrierTimeout
  | .barrierSwitches => .barrierSwitches
  | .resetPosition => .resetPosition

/-- A lane's part in its group's fault: FAULT with the group's cause, unless it is in FAULT already or HELD under
HOLD_DOWN (R69). -/
def State.laneInGroupFault (c : GroupFault) (s : State) (l : LaneNo) : State :=
  if (s.lane l).state == .fault || (s.lane l).heldDown then s else s.laneToFault l c.forLane

/-- A group enters FAULT: the drive off, any request withdrawn, the timers stopped; a group already in FAULT keeps
its first cause (R65, R68). The lanes of a group in use follow it and LANE_FAULT is raised (R69). -/
def State.groupToFault (s : State) (g : GroupNo) (c : GroupFault) : State :=
  if (s.group g).state == .fault then s
  else
    let t := (s.withdraw (groupRequester g)).modGroup g fun x => { x.settle .fault with cause := some c }
    if s.inUse g then ((s.lanesOf g).foldl (State.laneInGroupFault c) t).raise .laneFault else t

/-! ### The closing call (R60, R61, R63) -/

/-- A lane in RELEASING whose closing call becomes true acts by its group's state (R61). In AWAIT_GRANT_DOWN and
GOING_DOWN, which R61 does not name, it enters SECURING (log entry 17). -/
def State.releasingRecalled (s : State) (l : LaneNo) : State :=
  match (s.lane l).group with
  | none => s
  | some g =>
    match (s.group g).state with
    | .awaitUp => (s.unaskArm g .down).modLane l Lane.closedOrHeld
    | .down => s.modLane l Lane.closedOrHeld
    | .stopped => (s.modGroup g fun x => { x with heldStroke := some .down }).modLane l (·.enter .securing)
    | .obstructed | .awaitDown | .goingDown => s.modLane l (·.enter .securing)
    | .goingUp | .up | .fault => s

/-- A lane's closing call becomes true. An OPEN lane then begins to close by `laneReaction`. -/
def State.callRises (s : State) (l : LaneNo) : State :=
  if (s.lane l).state == .releasing then s.releasingRecalled l else s

/-- A lane's closing call becomes false (R60). -/
def State.callFalls (s : State) (l : LaneNo) : State :=
  let x := s.lane l
  match x.state with
  | .isOpen | .releasing | .held | .fault => s
  | .warning | .clearing => s.modLane l (·.enter .isOpen)
  | .closed =>
    if x.keptClosed then s
    else if x.group.isNone then s.modLane l (·.enter .isOpen)
    else s.modLane l (·.enter .releasing)
  | .securing =>
    match x.group with
    | none => s
    | some g =>
      match (s.group g).state with
      | .up | .awaitDown => (s.unaskArm g .up).modLane l (·.enter .isOpen)
      | .obstructed | .stopped | .down => s.modLane l (·.enter .releasing)
      | .goingDown | .awaitUp | .goingUp | .fault => s

/-- The closure demand takes a new value: an event for every present lane that no hold keeps called, and its fall
stops the deck clearing timer (R53, R58). -/
def State.setClosure (s : State) (b : Bool) : State :=
  let t := { s with road := { s.road with
    closureDemand := b
    deck := if b then s.road.deck else .stopped } }
  t.presentLanes.foldl
    (fun u l =>
      if (u.lane l).hold == .free then (if b then u.callRises l else u.callFalls l) else u) t

/-! ### Reactions: what follows in the same act -/

/-- The closure demand is recomputed at each change of the opening and pair states (R53). -/
def closureReaction (s : State) : Option State :=
  if s.closureNow != s.road.closureDemand then some (s.setClosure s.closureNow) else none

/-- A lane in CLEARING has what it waits for (R56, R57, R58). -/
def State.laneCleared (s : State) (l : LaneNo) : Bool :=
  let x := s.lane l
  if x.kind == .tram then x.timer.isNone && x.count == 0
  else !s.presence l && (x.role == .entry || !s.road.closureDemand || s.road.deck == .expired)

/-- What one present lane does of itself: an OPEN lane called to close begins (R55, R57, R58, R61); a lane held in
RED goes on when no element of its road warning head is DARK (R55); a lane in CLEARING that is clear enters SECURING,
or ends at once where it has no group (R56 to R58). -/
def laneReaction (s : State) (l : LaneNo) : Option State :=
  let x := s.lane l
  if !x.present then none
  else
    match x.state with
    | .isOpen => if s.closingCall l then some (s.beginClosing l) else none
    | .warning =>
      if x.subPhase == some .red && x.timer.isNone && !s.warningDark x.approach then some (s.enterClearing l) else none
    | .clearing =>
      if s.laneCleared l then
        if x.group.isNone then some (s.modLane l Lane.closedOrHeld) else some (s.modLane l (·.enter .securing))
      else none
    | _ => none

/-- The first lane with something to do. -/
def lanesReaction (s : State) : Option State := (List.finRange 12).findSome? (laneReaction s)

/-- The deck clearing timer is started when every present ENTRY lane is CLOSED or HELD under a closure demand (R58). -/
def deckReaction (s : State) : Option State :=
  if s.road.deck == .stopped && s.road.closureDemand && s.entriesClosed then
    some { s with road := { s.road with deck := .running (s.clock.now + 1000 * s.cfg Entry.deckClearTime) } }
  else none

/-- What a group in use does of itself: asked down when every present lane is in SECURING, a lane HELD under HOLD_DOWN
counting as one (R59); its lanes end at once where it is DOWN already (R59); asked up when every present lane is
RELEASING (R61); and a stroke up that waits while the pair is not LOCKED is turned down, as R71 says R61 has done
(log entry 16). -/
def groupReaction (s : State) (g : GroupNo) : Option State :=
  let ls := s.lanesOf g
  if ls == [] then none
  else
    match (s.group g).state with
    | .up =>
      if ls.all fun l => (s.lane l).state == .securing || (s.lane l).heldDown then some (s.askArm g .down) else none
    | .down =>
      if ls.all fun l => (s.lane l).state == .releasing then some (s.askArm g .up)
      else if (ls.any fun l => (s.lane l).state == .securing) &&
          (ls.all fun l => match (s.lane l).state with
            | .securing | .closed | .held => true
            | _ => false)
      then some (ls.foldl State.laneAtDown s)
      else none
    | .obstructed =>
      if ls.all fun l => (s.lane l).state == .releasing then some (s.askArm g .up) else none
    | .stopped =>
      if (s.group g).heldStroke == some .up then
        if s.motion.pair.state != .locked && ls.any fun l => (s.lane l).state == .releasing && s.closingCall l then
          some (ls.foldl (fun s l => if (s.lane l).state == .releasing then s.releasingRecalled l else s) s)
        else none
      else if ls.all fun l => (s.lane l).state == .releasing then
        some (s.modGroup g fun x => { x with heldStroke := some .up })
      else none
    | .awaitUp =>
      if s.motion.pair.state != .locked && ls.any fun l => (s.lane l).state == .releasing && s.closingCall l then
        some (ls.foldl (fun s l => if (s.lane l).state == .releasing then s.releasingRecalled l else s) s)
      else none
    | _ => none

/-- The first group with something to do, so that requests of one act join in group number order (R162). -/
def groupsReaction (s : State) : Option State := (List.finRange 8).findSome? (groupReaction s)

/-! ### Grant, E-stop and RESUME for the groups -/

/-- A group's grant: the stroke begins and its timer starts (R65). -/
def State.grantArm (s : State) (g : GroupNo) : State :=
  s.modGroup g fun x =>
    match x.state with
    | .awaitDown => { x with state := .goingDown, strokeTimer := s.inSeconds (s.cfg Entry.barrierStrokeTimeout) }
    | .awaitUp => { x with state := .goingUp, strokeTimer := s.inSeconds (s.cfg Entry.barrierStrokeTimeout) }
    | _ => x

/-- The E-stop becoming active, for one group (R70). -/
def Group.estopped (x : Group) : Group :=
  match x.state with
  | .goingDown => { x with state := .stopped, strokeTimer := none, heldStroke := some .down }
  | .goingUp => { x with state := .stopped, strokeTimer := none, heldStroke := some .up }
  | .awaitDown => { x with heldStroke := some .down }
  | .awaitUp => { x with heldStroke := some .up }
  | _ => x

/-- The E-stop becoming active, for every group (R70). -/
def State.estopGroups (s : State) : State :=
  { s with road := { s.road with groups := mapTable Group.estopped s.road.groups } }

/-- RESUME, for one group: a held stroke is requested afresh, a stroke up only while the pair is LOCKED (R71). -/
def State.resumeArm (s : State) (g : GroupNo) : State :=
  match (s.group g).heldStroke with
  | some .down => s.askArm g .down
  | some .up => if s.motion.pair.state == .locked then s.askArm g .up else s
  | none => s

/-- RESUME, in group number order (R71). -/
def State.resumeArms (s : State) : State := (List.finRange 8).foldl State.resumeArm s

/-! ### Lanes and groups found from the switches (R75) -/

/-- The state that a group's end switches show at reset (R75). -/
def Group.found (x : Group) : Group :=
  if x.downSwitch && !x.upSwitch then x.settle .down
  else if x.upSwitch && !x.downSwitch then x.settle .up
  else { x.settle .fault with cause := some .resetPosition }

/-- A present lane's state as it follows its group at reset or at a change of its entry (R75). -/
def Lane.followGroup (x : Lane) (g : Option GroupState) : Lane :=
  match g with
  | some .down => { x.enter .closed with keptClosed := true }
  | some .fault => { x.enter .fault with cause := some .resetPosition }
  | _ => x.enter .isOpen

end Sys2Proof.Machine
end

