-- ==== Sys2Proof/Machine/Pair.lean ====
section
/-! DEFINITION. The Leaf Motion Controller's own operations (Section 6): entering the states of the pair, lock
strokes and pump starts, halts and their end, faults, and the sequences of unlocking, starting, lowering, locking and
recovery as the reactions of one act. -/

namespace Sys2Proof.Machine

/-- The three locks, in requester number order (R161). -/
def allLocks : List LockId := [.bolt, .tailN, .tailS]

/-- Both sides, N first. -/
def bothSides : List Side := [.n, .s]

/-- The tail lock of a leaf (R114). -/
def tailOf : Side → LockId
  | .n => .tailN
  | .s => .tailS

/-! ### Entering a state -/

/-- Both demands become 0, the pair demand with them (R149), and the ramp base (R146; log entry 26). -/
def State.stopDemands (s : State) : State :=
  let t := (s.modLeaf .n fun x => { x with demand := 0 }).modLeaf .s fun x => { x with demand := 0 }
  { t with motion := { t.motion with
    period := { t.motion.period with pairDemand := 0 }
    rampBase := 0 } }

/-- The direction outputs that a pair state sets; the others leave them as last set (R117). -/
def PairState.sets : PairState → Option Travel
  | .raising | .isOpen => some .raise
  | .lowering | .seating | .recovering => some .lower
  | _ => none

/-- The direction outputs of both leaves. -/
def State.setTravel (s : State) (d : Option Travel) : State :=
  match d with
  | some d => (s.modLeaf .n fun x => { x with direction := d }).modLeaf .s fun x => { x with direction := d }
  | none => s

/-- The pair enters a state by an event: the demands are 0, the direction is set for the new state, no state is kept
and the recovery step is absent (R117, R146, R149). -/
def State.enterPair (s : State) (st : PairState) : State :=
  ((s.stopDemands).setTravel st.sets).modPair fun p => { p with state := st, interrupted := none, step := none }

/-! ### Requests of locks and pumps (R115, R119, R121) -/

/-- Requests are held while the E-stop is active or the pair is HALTED (R119). -/
def State.mustHold (s : State) : Bool := s.motion.estop || s.motion.pair.state == .halted

/-- The pair wants a stroke of a lock (R119). -/
def State.askLock (s : State) (k : LockId) (d : LockStroke) : State :=
  let t := s.modLock k fun x => { x with stroke := some d, held := s.mustHold }
  if s.mustHold then t else t.request (lockRequester k)

/-- A pump requests a start, as a lock does (R121). -/
def State.askPump (s : State) (i : Side) : State :=
  let t := s.modPump i fun x => { x with held := s.mustHold }
  if s.mustHold then t else t.request (pumpRequester i)

/-- A lock's request, standing or held, becomes NONE with its stroke absent; a stroke in progress runs on (R126). -/
def State.dropLock (s : State) (k : LockId) : State :=
  (s.withdraw (lockRequester k)).modLock k fun x =>
    { x with held := false, stroke := if x.state == .stroking then x.stroke else none }

/-- A pump's request becomes NONE (R126). -/
def State.dropPump (s : State) (i : Side) : State :=
  (s.withdraw (pumpRequester i)).modPump i fun x => { x with held := false }

/-- Every lock's request dropped. -/
def State.dropLocks (s : State) : State := allLocks.foldl State.dropLock s

/-- Both pumps' requests dropped. -/
def State.dropPumps (s : State) : State := bothSides.foldl State.dropPump s

/-- Both pumps OFF, a start in progress abandoned with its timer stopped (R115, R121). -/
def State.pumpsOff (s : State) : State :=
  bothSides.foldl (fun s i => s.modPump i fun x => { x with state := .off, timer := none }) s

/-- A lock wants no stroke and makes none. -/
def Lock.idle (k : Lock) : Bool := k.state != .stroking && k.stroke.isNone

/-- A pump is off and asks for nothing. -/
def State.pumpIdle (s : State) (i : Side) : Bool :=
  (s.pump i).state == .off && !(s.pump i).held && !s.standing (pumpRequester i)

/-! ### Entering LOCKING, LOCKED and FAULT -/

/-- The pair enters LOCKING: both pumps OFF, requests that LOCKING does not need withdrawn (R121, R123, R134). -/
def State.enterLocking (s : State) : State := (s.dropLocks.dropPumps.pumpsOff).enterPair .locking

/-- The pair enters LOCKED, and its target becomes absent (R124). -/
def State.enterLocked (s : State) : State := (s.enterPair .locked).modPair fun p => { p with target := none }

/-- The pair enters FAULT (R126); in FAULT already it keeps its first cause (R125). -/
def State.enterFault (s : State) (c : PairFault) : State :=
  if s.motion.pair.state == .fault then s
  else
    (((s.pumpsOff.dropLocks.dropPumps).enterPair .fault).modPair fun p =>
      { p with target := none, halts := HaltSet.empty, channelTimer := none, cause := some c }).raise .motionFault

/-! ### Halts (R127, R128) -/

/-- A halt cause is in the set. -/
def HaltSet.has (h : HaltSet) : HaltCause → Bool
  | .estop => h.estop
  | .wind => h.wind
  | .channel => h.channel
  | .road => h.road

/-- A halt cause put into the set. -/
def HaltSet.add (h : HaltSet) : HaltCause → HaltSet
  | .estop => { h with estop := true }
  | .wind => { h with wind := true }
  | .channel => { h with channel := true }
  | .road => { h with road := true }

/-- A halt cause's condition, for the pair state whose rules hold (R127, R128). -/
def State.haltCondition (s : State) (c : HaltCause) : Bool :=
  let e := s.motion.pair.effective
  match c with
  | .estop => s.motion.estop && (match e with
    | .locked | .halted | .fault => false
    | _ => true)
  | .wind => s.windStopping && !s.lowerDemand && e == .raising
  | .channel => s.beam.filtered && (s.aboveGuard .n || s.aboveGuard .s) && (match e with
    | .lowering | .seating | .recovering => true
    | _ => false)
  | .road => !s.roadSecured && (match e with
    | .unlocking | .free | .starting | .raising => true
    | _ => false)

/-- A STANDING request of a lock becomes HELD (R127). -/
def State.holdLock (s : State) (k : LockId) : State :=
  if s.standing (lockRequester k) then (s.withdraw (lockRequester k)).modLock k fun x => { x with held := true } else s

/-- A STANDING request of a pump becomes HELD (R127). -/
def State.holdPump (s : State) (i : Side) : State :=
  if s.standing (pumpRequester i) then (s.withdraw (pumpRequester i)).modPump i fun x => { x with held := true } else s

/-- ESTOP switches a pump off; one that was starting or running gets a HELD request (R127). -/
def State.estopPump (s : State) (i : Side) : State :=
  s.modPump i fun x => if x.state == .off then x else { x with state := .off, timer := none, held := true }

/-- What ESTOP alone does to the pumps (R127, R128). -/
def State.haltPumps (s : State) (c : HaltCause) : State :=
  if c = .estop then bothSides.foldl State.estopPump s else s

/-- The pair enters HALTED for a cause, keeping the state it was in and its recovery step (R127), or the cause joins
the set of a pair already HALTED (R128). -/
def State.halt (s : State) (c : HaltCause) : State :=
  let p := s.motion.pair
  if p.state == .halted then
    (s.haltPumps c |>.modPair fun p => { p with halts := p.halts.add c }).raise .motionHalted
  else
    let t := bothSides.foldl State.holdPump (allLocks.foldl State.holdLock s)
    ((t.haltPumps c).stopDemands.modPair fun q =>
      { q with state := .halted, interrupted := some p.effective, halts := HaltSet.empty.add c }).raise .motionHalted

/-- A cause whose condition holds and that is not in the set halts the pair, or joins the set. -/
def haltReaction (s : State) : Option State :=
  ([.estop, .wind, .channel, .road] : List HaltCause).findSome? fun c =>
    if s.haltCondition c && !s.motion.pair.halts.has c then some (s.halt c) else none

/-! ### Resumption (R130) -/

/-- The locks that stand in the way of an unseated leaf (R134). -/
def State.lockInWay (s : State) : LockId → Bool
  | .bolt => !s.bothSeated
  | .tailN => !(s.leaf .n).seat
  | .tailS => !(s.leaf .s).seat

/-- The pump of a seated leaf is not needed; that of an unseated one must run (R134). -/
def State.pumpReady (s : State) (i : Side) : Bool := (s.leaf i).seat || (s.pump i).state == .running

/-- The stroke that a pair state wants of a lock (R120, R124, R134). -/
def State.wantsStroke (s : State) (k : LockId) : Option LockStroke :=
  match s.motion.pair.state with
  | .unlocking => some .withdraw
  | .locking => some .drive
  | .recovering =>
    if s.motion.pair.step == some .withdraw && s.lockInWay k then some .withdraw else none
  | _ => none

/-- Whether a pair state wants a pump started (R121, R130, R134). -/
def State.wantsPump (s : State) (i : Side) : Bool :=
  match s.motion.pair.state with
  | .free | .starting => (s.pump i).state != .running
  | .recovering => s.motion.pair.step == some .start && !s.pumpReady i
  | _ => false

/-- A HELD lock request becomes STANDING where the state entered still wants its stroke, else NONE with its stroke
absent (R130). -/
def State.releaseLock (s : State) (k : LockId) : State :=
  if (s.lock k).held then
    if (s.lock k).stroke.isSome && s.wantsStroke k == (s.lock k).stroke then
      (s.modLock k fun x => { x with held := false }).request (lockRequester k)
    else s.dropLock k
  else s

/-- A HELD pump request becomes STANDING where the state entered still wants it, else NONE (R130). -/
def State.releasePump (s : State) (i : Side) : State :=
  if (s.pump i).held then
    if s.wantsPump i then (s.modPump i fun x => { x with held := false }).request (pumpRequester i) else s.dropPump i
  else s

/-- Every HELD request of locks and pumps, in requester number order (R130). -/
def State.releaseHeld (s : State) : State := bothSides.foldl State.releasePump (allLocks.foldl State.releaseLock s)

/-- Resumption into a state that needs the pumps: at once where both run, else STARTING with that state kept (R130). -/
def State.resumeMoving (s : State) (st : PairState) : State :=
  if (s.pump .n).state == .running && (s.pump .s).state == .running then (s.enterPair st).releaseHeld
  else ((s.enterPair .starting).modPair fun p => { p with interrupted := some st }).releaseHeld

/-- Resumption (R130): the causes become empty, the channel-clear timer is stopped, and the state entered follows
from the interrupted state and the lower demand. Out of FREE or STARTING with both pumps OFF it is FREE, though one
may have been granted before ESTOP switched it off (log entry 47). -/
def State.resumePair (s : State) : State :=
  let p := s.motion.pair
  let t := s.modPair fun q => { q with halts := HaltSet.empty, channelTimer := none }
  match p.interrupted.getD .locked with
  | .free | .starting =>
    if s.lowerDemand then t.enterLocking
    else
      (t.enterPair (if (s.pump .n).state == .off && (s.pump .s).state == .off then .free else .starting)).releaseHeld
  | .raising => t.resumeMoving (if s.lowerDemand then .lowering else .raising)
  | .isOpen => t.resumeMoving (if s.lowerDemand then .lowering else .isOpen)
  | .lowering => t.resumeMoving .lowering
  | .seating => t.resumeMoving .seating
  | .recovering =>
    let step := if p.step == some .creep && !(s.pumpReady .n && s.pumpReady .s) then some .start else p.step
    ((t.enterPair .recovering).modPair fun q => { q with step := step }).releaseHeld
  | st => (t.enterPair st).releaseHeld

/-! ### Lock strokes and pump starts (R119, R121) -/

/-- The end switch of a stroke's direction. -/
def LockStroke.switch : LockStroke → LockSwitch
  | .withdraw => .withdrawn
  | .drive => .driven

/-- An end switch of a lock as read. -/
def Lock.switchOn (k : Lock) : LockSwitch → Bool
  | .driven => k.drivenSwitch
  | .withdrawn => k.withdrawnSwitch

/-- A stroke ends at its switch: the lock takes the state of its direction (R119). -/
def Lock.strokeEnds (k : Lock) : Lock :=
  { k with
    state := match k.stroke with
      | some .withdraw => .withdrawn
      | some .drive => .driven
      | none => k.state
    stroke := none
    timer := none }

/-- A lock's grant: it strokes and is timed; where its switch is on and the other off already, the stroke ends in the
act of the grant (R119). -/
def State.grantLock (s : State) (k : LockId) : State :=
  s.modLock k fun x =>
    let y := { x with state := .stroking, held := false, timer := s.inSeconds (s.cfg Entry.lockStrokeTimeout) }
    match x.stroke with
    | some .withdraw => if x.withdrawnSwitch && !x.drivenSwitch then y.strokeEnds else y
    | some .drive => if x.drivenSwitch && !x.withdrawnSwitch then y.strokeEnds else y
    | none => x

/-- A pump is proven running: RUNNING, its timer stopped (R121). -/
def Pump.proven (x : Pump) : Pump := { x with state := .running, timer := none }

/-- A pump's grant: it starts and is timed, or is RUNNING at once where its input is on; the pair leaves FREE for
STARTING (R121). -/
def State.grantPump (s : State) (i : Side) : State :=
  let t := s.modPump i fun x =>
    let y := { x with state := .starting, held := false, timer := s.inSeconds (s.cfg Entry.pumpStartTimeout) }
    if x.runningInput then y.proven else y
  if s.motion.pair.state == .free then t.enterPair .starting else t

/-! ### The sequences, as reactions of one act -/

/-- The first of some locks that is idle and not where it should be is asked for its stroke. -/
def State.askFirst (s : State) (ks : List LockId) (d : LockStroke) (goal : LockState) : Option State :=
  (ks.find? fun k => (s.lock k).idle && (s.lock k).state != goal).map fun k => s.askLock k d

/-- The first of some pumps that is idle is asked to start. -/
def State.askFirstPump (s : State) (is : List Side) : Option State := (is.find? s.pumpIdle).map s.askPump

/-- A lock has a request, standing or held, and no stroke in progress. -/
def State.lockRequesting (s : State) (k : LockId) : Bool :=
  (s.lock k).state != .stroking && ((s.lock k).stroke.isSome || (s.lock k).held || s.standing (lockRequester k))

/-- UNLOCKING (R120). -/
def unlockingReaction (s : State) : Option State :=
  let st (k : LockId) := (s.lock k).state
  if s.lowerDemand then
    if allLocks.any s.lockRequesting then some s.dropLocks
    else if allLocks.any fun k => st k == .stroking then none
    else some s.enterLocking
  else if allLocks.all fun k => st k == .withdrawn then some (s.enterPair .free)
  else if st .bolt != .withdrawn then s.askFirst [.bolt] .withdraw .withdrawn
  else s.askFirst [.tailN, .tailS] .withdraw .withdrawn

/-- FREE, and a STARTING that keeps no state (R121). -/
def startingReaction (s : State) : Option State :=
  if s.lowerDemand then some s.enterLocking
  else if (s.pump .n).state == .running && (s.pump .s).state == .running then some (s.enterPair .raising)
  else s.askFirstPump bothSides

/-- A STARTING entered on resumption, with the state it keeps (R130). -/
def keptReaction (s : State) (kept : PairState) : Option State :=
  if s.lowerDemand && (kept == .raising || kept == .isOpen) then
    some (s.modPair fun p => { p with interrupted := some .lowering })
  else if (s.pump .n).state == .running && (s.pump .s).state == .running then some (s.enterPair kept)
  else s.askFirstPump bothSides

/-- LOCKING (R124). -/
def lockingReaction (s : State) : Option State :=
  let st (k : LockId) := (s.lock k).state
  if allLocks.all fun k => st k == .driven then some s.enterLocked
  else if st .tailN != .driven || st .tailS != .driven then s.askFirst [.tailN, .tailS] .drive .driven
  else s.askFirst [.bolt] .drive .driven

/-- RECOVERING (R134). A leaf that leaves its seat again in step START has its pump started and in step CREEP is driven,
with no step taken back to withdraw its tail lock (log entry 48). -/
def recoveringReaction (s : State) : Option State :=
  let st (k : LockId) := (s.lock k).state
  let step (r : RecoveryStep) : State := s.modPair fun p => { p with step := some r }
  if s.bothSeated then some s.enterLocking
  else
    match s.motion.pair.step with
    | some .withdraw =>
      if allLocks.all fun k => !s.lockInWay k || st k == .withdrawn then some (step .start)
      else if st .bolt != .withdrawn then s.askFirst [.bolt] .withdraw .withdrawn
      else s.askFirst ([.tailN, .tailS].filter s.lockInWay) .withdraw .withdrawn
    | some .start =>
      if s.pumpReady .n && s.pumpReady .s then
        let t := step .creep
        some { t with motion := { t.motion with rampBase := 0 } }
      else s.askFirstPump (bothSides.filter fun i => !(s.leaf i).seat)
    | _ => none

/-- HALTED: a lower demand removes WIND, and the pair resumes where that empties the set (R128, R129). -/
def haltedReaction (s : State) : Option State :=
  let h := s.motion.pair.halts
  if h.wind && s.lowerDemand then
    let left := { h with wind := false }
    let t := s.modPair fun p => { p with halts := left }
    some (if left = HaltSet.empty then t.resumePair else t)
  else none

/-- The conditions of leaving LOCKED (R118). -/
def State.mayUnlock (s : State) : Bool :=
  s.motion.pair.state == .locked && s.raiseDemand && s.roadSecured && s.windCalm && !s.motion.estop
    && !s.lamps.headFaulted 4 && !s.lamps.headFaulted 5

/-- The pair leaves LOCKED for UNLOCKING, taking the published target (R118). -/
def State.unlock (s : State) : State :=
  (s.enterPair .unlocking).modPair fun p => { p with target := s.publishedTarget }

/-- What the pair does of itself in the act that gives it something to do. -/
def pairReaction (s : State) : Option State :=
  match s.motion.pair.state with
  | .locked => if s.mayUnlock then some s.unlock else none
  | .unlocking => unlockingReaction s
  | .free => startingReaction s
  | .starting =>
    match s.motion.pair.interrupted with
    | some kept => keptReaction s kept
    | none => startingReaction s
  | .raising | .isOpen => if s.lowerDemand then some (s.enterPair .lowering) else none
  | .lowering | .seating => if s.bothSeated then some s.enterLocking else none
  | .locking => lockingReaction s
  | .recovering => recoveringReaction s
  | .halted => haltedReaction s
  | .fault => none

/-! ### The Start Window's grants (R164) -/

/-- The requester begins its start in the act of its grant (R164, R165). -/
def State.begin (s : State) (r : Requester) : State :=
  match r.val with
  | 8 => s.grantLock .bolt
  | 9 => s.grantLock .tailN
  | 10 => s.grantLock .tailS
  | 11 => s.grantPump .n
  | 12 => s.grantPump .s
  | n => if h : n < 8 then s.grantArm ⟨n, h⟩ else s

/-- One grant: the head of the queue leaves it, its entry joins the list with the current stamp, and the requester
begins (R164). -/
def State.grantTo (s : State) (r : Requester) (rest : List Requester) : State :=
  let w := { s.window with queue := rest, grants := s.window.grants ++ [{ stamp := s.uptimeMs, requester := r }] }
  State.begin { s with window := w } r

/-- A grant is made while the queue is not empty and the list has room (R164). -/
def grantReaction (s : State) : Option State :=
  match s.window.queue with
  | [] => none
  | r :: rest => if s.window.grants.length < s.cfg Entry.startLimit then some (s.grantTo r rest) else none

/-! ### The E-stop becoming active (R132, R167) -/

/-- A lock whose request the emptied queue held keeps its stroke as a held request (R132, R167). -/
def State.emptyQueue (s : State) : State :=
  let t := bothSides.foldl State.holdPump (allLocks.foldl State.holdLock s)
  { t with window := { t.window with queue := [] } }

end Sys2Proof.Machine
end

