-- ==== Sys2Proof/Machine/Settle.lean ====
section
/-! DEFINITION. One act: what a command or an event brings about in the blocks that read its result, all in the same
act (00_scope 3.2, spec/95), as reactions taken one after another until none is left (log entry 4). -/

namespace Sys2Proof.Machine

/-- The reactions in the order in which they are taken: the road, the pair's halts, the opening, the pair, and the
Start Window's grants last, since all requests of an act join the queue before its grants follow (R164). -/
def reactions : List (State → Option State) :=
  [closureReaction, lanesReaction, deckReaction, groupsReaction, haltReaction, openingReaction, pairReaction,
    grantReaction]

/-- The first reaction that a state has, if it has any. -/
def reaction (s : State) : Option State := reactions.findSome? fun r => r s

/-- Reactions taken until none is left, or until so many have been taken. -/
def settle : Nat → State → State
  | 0, s => s
  | n + 1, s =>
    match reaction s with
    | some t => settle n t
    | none => s

/-- The rest of an act: the reactions, after which no request joins in it any more (R162), then the lamp unit's part,
which hands the new aspects over (R91). -/
def State.finish (s : State) : State := (settle Config.actBound s).closeAct.lampStage

end Sys2Proof.Machine
end

