-- ==== Sys2Proof/Machine/PassageCommands.lean ====
section
/-! DEFINITION. The passage commands (Section 1), the up-time and the overdue mark. Every command takes the operands as
its frame carries them; R194's third test, for the bytes that Section 1 does not test itself, comes first. -/

namespace Sys2Proof.Machine

/-- A command whose operands R194's third test refuses is answered NOT_PERMITTED (log entry 34). -/
def judged (wellFormed : Bool) (s : State) (f : State → State) : Host.Outcome State Fault Refusal :=
  act s fun s => if wellFormed then f s else s.refuse .notPermitted

/-! ### BOOK PASSAGE (R10) -/

/-- The body of BOOK PASSAGE with its direction and class named. -/
structure Booking where
  tag : Tag
  direction : Direction
  cls : PassageClass
  angle : Nat
  ready : Bool
  allowance : Nat
  autoRetire : Bool
deriving DecidableEq, Repr

/-- The lowest free slot (R1). -/
def State.freeSlots (s : State) : Option (Fin 16) := (List.finRange 16).find? fun i => s.book.slots[i].isNone

/-- The record that a booking creates (R10). -/
def State.newPassage (s : State) (b : Booking) (slot : Fin 16) : Passage where
  tag := b.tag
  slot := slot
  direction := b.direction
  cls := b.cls
  angle := s.keptAngle b.cls b.angle
  allowance := keptAllowance b.allowance
  autoRetire := b.autoRetire
  status := if b.ready then .ready else .booked
  bookedAt := s.clock.uptime
  readySince := if b.ready then some s.clock.uptime else none
  openingNumber := none
  proceedAt := none
  overdue := false
  clearedAt := none

/-- A record placed in a slot. -/
def State.setSlot (s : State) (i : Fin 16) (p : Passage) : State :=
  { s with book := { s.book with slots := modEntry s.book.slots i fun _ => some p } }

/-- A booking taken: the record in its slot, its tag on the waiting list, and the offer to an opening in SHIPPING where
it is booked ready (R5, R10, R35). -/
def State.placeBooking (s : State) (b : Booking) (slot : Fin 16) : State :=
  ((s.setSlot slot (s.newPassage b slot)).placeNew b.tag).offer b.tag

/-- R7 changed the angle or the allowance of a booking. -/
def State.bookingClamped (s : State) (b : Booking) : Bool :=
  s.keptAngle b.cls b.angle != b.angle || keptAllowance b.allowance != b.allowance

/-- The response of a booking: the slot, the angle and the allowance kept (R10). -/
def Passage.bookingBody (p : Passage) : List Byte := byteOf p.slot.val :: two p.angle ++ two p.allowance

/-- BOOK PASSAGE with its direction and class named: the tests after the first (R10). -/
def State.bookPassage (s : State) (b : Booking) : State :=
  if (s.passage b.tag).isSome then s.refuse .duplicateTag
  else
    match s.freeSlots with
    | none => s.refuse .bookFull
    | some slot =>
      (s.placeBooking b slot).finish.respond (if s.bookingClamped b then .acceptedClamped else .accepted)
        (s.newPassage b slot).bookingBody

/-- BOOK_PASSAGE (R10). -/
def execBookPassage (tag : Tag) (direction cls : Byte) (angle : BitVec 16) (ready : Byte) (allowance : BitVec 16)
    (autoRetire : Byte) (s : State) : Host.Outcome State Fault Refusal :=
  judged (Instr.wellFormed (.bookPassage tag direction cls angle ready allowance autoRetire)) s fun s =>
    match directionNamed direction, classNamed cls with
    | some d, some c =>
      if tag = 0 then s.refuse .notPermitted
      else s.bookPassage ⟨tag, d, c, angle.toNat, ready == 1, allowance.toNat, autoRetire == 1⟩
    | _, _ => s.refuse .notPermitted

/-! ### AMEND PASSAGE (R11 to R14) -/

/-- The masked fields of AMEND PASSAGE, with the values given. -/
structure Amendment where
  direction : Option Direction
  cls : Option PassageClass
  angle : Option Nat
  ready : Option Bool
  allowance : Option Nat
  autoRetire : Option Bool
deriving DecidableEq, Repr

/-- A masked coding read, none where it names nothing; the value of a field not masked is not read (R11). -/
def masked {α : Type} (mask : Byte) (k : Nat) (v : Option α) : Option (Option α) :=
  if mask.getLsbD k then v.map some else some none

/-- The amendment that the operands of AMEND PASSAGE spell; none where a masked direction or class names nothing
(R11). -/
def amendment (mask direction cls : Byte) (angle : BitVec 16) (ready : Byte) (allowance : BitVec 16)
    (autoRetire : Byte) : Option Amendment :=
  match masked mask 0 (directionNamed direction), masked mask 1 (classNamed cls) with
  | some d, some c =>
    some
      { direction := d
        cls := c
        angle := if mask.getLsbD 2 then some angle.toNat else none
        ready := if mask.getLsbD 3 then some (ready == 1) else none
        allowance := if mask.getLsbD 4 then some allowance.toNat else none
        autoRetire := if mask.getLsbD 5 then some (autoRetire == 1) else none }
  | _, _ => none

/-- The mask names a field other than the transit allowance and auto-retire. -/
def Amendment.movesVessel (a : Amendment) : Bool :=
  a.direction.isSome || a.cls.isSome || a.angle.isSome || a.ready.isSome

/-- The class after an amendment. -/
def Amendment.clsOf (a : Amendment) (p : Passage) : PassageClass := a.cls.getD p.cls

/-- The required angle after an amendment: that given as R7 keeps it, ANGLE_FULL for a class changed to TOW, or the old
one (R7, R12). -/
def State.amendedAngle (s : State) (a : Amendment) (p : Passage) : Nat :=
  match a.angle with
  | some g => s.keptAngle (a.clsOf p) g
  | none => if a.clsOf p == .tow && p.cls != .tow then s.cfg Entry.angleFull else p.angle

/-- R7 changed a value that an amendment gives. -/
def State.amendmentClamped (s : State) (a : Amendment) (p : Passage) : Bool :=
  (a.angle.any fun g => s.keptAngle (a.clsOf p) g != g) || (a.allowance.any fun g => keptAllowance g != g)

/-- Direction, class, angle, allowance and auto-retire as an amendment leaves them (R12). -/
def State.amendFields (s : State) (a : Amendment) (p : Passage) : Passage :=
  { p with
    direction := a.direction.getD p.direction
    cls := a.clsOf p
    angle := s.amendedAngle a p
    allowance := (a.allowance.map keptAllowance).getD p.allowance
    autoRetire := a.autoRetire.getD p.autoRetire }

/-- The ready flag after an amendment. -/
def Amendment.readyOf (a : Amendment) (p : Passage) : Bool := a.ready.getD p.isReady

/-- Readiness as an amendment leaves it in BOOKED or READY (R9). -/
def State.amendReady (s : State) (ready : Bool) (p : Passage) : Passage :=
  if ready == p.isReady then p
  else if ready then { p with status := .ready, readySince := some s.clock.uptime }
  else { p with status := .booked, readySince := none }

/-- A change of class that crosses the section boundary moves the tag (R5). -/
def State.moveForClass (s : State) (t : Tag) (before after : PassageClass) : State :=
  if (before == .priority) == (after == .priority) then s else (s.unlist t).placeNew t

/-- An amendment in BOOKED or READY (R12), with the offer of a passage that becomes READY (R35). -/
def State.amendWaiting (s : State) (a : Amendment) (p : Passage) : State :=
  let t := s.modPassage p.tag fun q => s.amendReady (a.readyOf p) (s.amendFields a q)
  let u := t.moveForClass p.tag p.cls (a.clsOf p)
  if a.readyOf p && !p.isReady then u.offer p.tag else u

/-- An amendment takes a CALLED member out of its opening (R13). -/
def State.takesOut (s : State) (a : Amendment) (p : Passage) : Bool :=
  (s.amendFields a p).direction != p.direction
    || decide ((s.book.opening.map (·.target)).getD 0 < s.amendedAngle a p)
    || !a.readyOf p

/-- A CALLED member taken out of the opening: it returns to the head of its section, READY or BOOKED, and is offered
again where it is READY (R6, R13, R34). -/
def State.takeOut (s : State) (a : Amendment) (p : Passage) : State :=
  let t := s.modPassage p.tag fun q =>
    { s.amendFields a q with
      status := if a.readyOf p then .ready else .booked
      readySince := if a.readyOf p then q.readySince else none
      openingNumber := none
      proceedAt := none }
  let u := (t.leaveMembers p.tag).placeReturned [p.tag]
  if a.readyOf p then u.offer p.tag else u

/-- An amendment taken, by the status of its passage (R12 to R14). -/
def State.amend (s : State) (a : Amendment) (p : Passage) : State :=
  match p.status with
  | .booked | .ready => s.amendWaiting a p
  | .called => if s.takesOut a p then s.takeOut a p else s.modPassage p.tag (s.amendFields a)
  | .proceed | .passing =>
    let t := s.modPassage p.tag (s.amendFields a)
    if a.allowance.isSome then t.testOverdue p.tag else t
  | .cleared =>
    let t := s.modPassage p.tag (s.amendFields a)
    if a.autoRetire == some true then t.retire p.tag else t

/-- The result of an amendment taken (R7, R13). -/
def State.amendResult (s : State) (a : Amendment) (p : Passage) : Result :=
  if p.status == .called && s.takesOut a p then .acceptedLeftOpening
  else if s.amendmentClamped a p then .acceptedClamped
  else .accepted

/-- The response of an amendment: status, angle and allowance (R11). -/
def Passage.amendBody (p : Passage) : List Byte := byteOf p.status.code :: two p.angle ++ two p.allowance

/-- An amendment that no test of R11 refuses; the response gives the record as the act leaves it (log entry 24). -/
def State.amendPassage (s : State) (a : Amendment) (p : Passage) : State :=
  let t := (s.amend a p).finish
  t.respond (s.amendResult a p) ((t.passage p.tag).getD p).amendBody

/-- The tests of R11 that follow the naming of the fields. -/
def Passage.amendRefused (p : Passage) (a : Amendment) : Option Result :=
  match p.status with
  | .proceed | .passing => if a.movesVessel then some .inTransit else none
  | .cleared => if a.movesVessel || a.allowance.isSome then some .notPermitted else none
  | _ => none

/-- AMEND_PASSAGE (R11). -/
def execAmendPassage (tag : Tag) (mask direction cls : Byte) (angle : BitVec 16) (ready : Byte)
    (allowance : BitVec 16) (autoRetire : Byte) (s : State) : Host.Outcome State Fault Refusal :=
  judged (Instr.wellFormed (.amendPassage tag mask direction cls angle ready allowance autoRetire)) s fun s =>
    match s.passage tag, amendment mask direction cls angle ready allowance autoRetire with
    | none, _ => s.refuse .noSuchRecord
    | some _, none => s.refuse .notPermitted
    | some p, some a =>
      match p.amendRefused a with
      | some r => s.refuse r
      | none => s.amendPassage a p

/-! ### MARK PASSING, MARK CLEARED, RETIRE PASSAGE (R15 to R17) -/

/-- A passage in PROCEED becomes PASSING (R15, R31). -/
def State.becomePassing (s : State) (t : Tag) : State := s.modPassage t fun p => { p with status := .passing }

/-- MARK_PASSING (R15). -/
def execMarkPassing (tag : Tag) (s : State) : Host.Outcome State Fault Refusal :=
  act s fun s =>
    match s.statusOf tag with
    | none => s.refuse .noSuchRecord
    | some .proceed => (s.becomePassing tag).finish.accept
    | some _ => s.refuse .notPermitted

/-- MARK_CLEARED (R16). -/
def execMarkCleared (tag : Tag) (s : State) : Host.Outcome State Fault Refusal :=
  act s fun s =>
    match s.statusOf tag with
    | none => s.refuse .noSuchRecord
    | some .passing => (s.enterCleared tag).finish.accept
    | some _ => s.refuse .notPermitted

/-- A retirement that is not refused, by status (R17, R33). -/
def State.retireAs (s : State) (t : Tag) : PassageStatus → State
  | .called => (s.leaveMembers t).retire t
  | .proceed => ((s.leaveMembers t).endService).retire t
  | _ => s.retire t

/-- RETIRE_PASSAGE (R17). -/
def execRetirePassage (tag : Tag) (s : State) : Host.Outcome State Fault Refusal :=
  act s fun s =>
    match s.statusOf tag with
    | none => s.refuse .noSuchRecord
    | some .passing => s.refuse .inTransit
    | some st => (s.retireAs tag st).finish.accept

/-! ### The up-time (R18, R197) -/

/-- The up-time advances by one second, from 4,294,967,295 to 0 (R197). -/
def State.advanceUptime (s : State) : State :=
  { s with clock := { s.clock with uptime := s.clock.uptime + 1, uptimeDue := s.clock.uptimeDue + 1000 } }

/-- UPTIME_ADVANCE: overdue, the join deadline and the waiting time are tested (R18, R24, R36). -/
def execUptimeAdvance (s : State) : Host.Outcome State Fault Refusal :=
  act s fun s => (s.reach s.clock.uptimeDue).advanceUptime.testAllOverdue.finish

/-- PASSAGE_OVERDUE (R18). -/
def execPassageOverdue (tag : Tag) (s : State) : Host.Outcome State Fault Refusal :=
  act s fun s => s.testOverdue tag

end Sys2Proof.Machine
end

