-- ==== Sys2Proof/Machine/Attention.lean ====
section
/-! DEFINITION. The attention commands that change state (Section 11.8). -/

namespace Sys2Proof.Machine

/-- Factors leave the pending set (R202). -/
def State.acknowledge (s : State) (fs : BitVec 16) : State :=
  { s with link := { s.link with factors := s.link.factors &&& ~~~fs } }

/-- ACK_ATTENTION (R202): the response gives the pending set as the command left it. -/
def execAckAttention (factors : BitVec 16) (s : State) : Host.Outcome State Fault Refusal :=
  act s fun s => (s.acknowledge factors).respond .accepted (bytesOf16 (s.acknowledge factors).link.factors)

/-- The attention floor set (R203). -/
def State.setFloor (s : State) (n : Nat) : State := { s with link := { s.link with floor := n } }

/-- SET_ATTENTION_FLOOR (R203). -/
def execSetAttentionFloor (floor : Byte) (s : State) : Host.Outcome State Fault Refusal :=
  judged (Instr.wellFormed (.setAttentionFloor floor)) s fun s => (s.setFloor floor.toNat).accept

end Sys2Proof.Machine
end

