-- ==== Sys2Proof/Machine/Wind.lean ====
section
/-! DEFINITION. The Wind Monitor's events (Section 8). -/

namespace Sys2Proof.Machine

/-- What a field input event is: nothing where the input shows the level already (log entry 5); otherwise the level
is read, and the part acts on it while it has power and is out of reset (log entry 12). -/
def pin (s : State) (same : Bool) (read f : State → State) : Host.Outcome State Fault Refusal :=
  .next (if same then s else if s.alive then f (read s) else read s)

/-- The wind-high condition found afresh; WIND_HIGH is raised as it passes from false to true (R157). -/
def State.testWindHigh (s : State) : State :=
  State.raiseIf { s with wind := { s.wind with high := s.windHighNow } } (s.windHighNow && !s.wind.high) .windHigh

/-- The gate value of a count (R154). -/
def gateValue (count factor : Nat) : Nat := min 600 (count * factor / 64)

/-- A gate value joins the list of the last four (R155). -/
def keepGate (gates : List Nat) (v : Nat) : List Nat := (if gates.length < 4 then gates else gates.drop 1) ++ [v]

/-- The anemometer's level as read. -/
def State.setWindRaw (s : State) (b : Bool) : State := { s with wind := { s.wind with raw := b } }

/-- The pulse filter at a change of its input (R152). -/
def State.windFiltered (s : State) : State :=
  let w := s.wind
  { s with wind :=
    match w.filter, w.raw with
    | .idle, true => { w with filter := .qualifying, pulseTimer := s.inMs 1 }
    | .qualifying, false => { w with filter := .idle, pulseTimer := none }
    | .counted, false => { w with filter := .idle, pulseTimer := none }
    | _, _ => w }

/-- ANEMOMETER_INPUT_CHANGE (R152). -/
def execAnemometerInputChange (active : Bool) (s : State) : Host.Outcome State Fault Refusal :=
  pin s (s.wind.raw == active) (·.setWindRaw active) State.windFiltered

/-- A pulse counted into the gate in progress, saturating at 4,095 (R152, R153). -/
def State.countWindPulse (s : State) : State :=
  { s with wind := { s.wind with filter := .counted, pulseTimer := none, counter := min 4095 (s.wind.counter + 1) } }

/-- ANEMOMETER_PULSE (R152). -/
def execAnemometerPulse (s : State) : Host.Outcome State Fault Refusal :=
  act s fun s => if s.wind.filter == .qualifying then s.expire s.wind.pulseTimer State.countWindPulse else s

/-- The gate that ends becomes a gate value, and the next begins (R153 to R155). -/
def State.endGate (s : State) : State :=
  { s with wind := { s.wind with
    gates := keepGate s.wind.gates (gateValue s.wind.counter (s.cfg Entry.windFactor))
    counter := 0
    gateTimer := s.wind.gateTimer.map (· + 3000) } }

/-- GATE_EXPIRY (R153, R156, R157). -/
def execGateExpiry (s : State) : Host.Outcome State Fault Refusal :=
  act s fun s => s.expire s.wind.gateTimer fun s => s.endGate.testWindHigh.finish

end Sys2Proof.Machine
end

