-- ==== Sys2Proof/Machine/BarrierEvents.lean ====
section
/-! DEFINITION. The events of the barrier groups (Section 3.6). -/

namespace Sys2Proof.Machine

/-- An end switch of a group as read (R52). -/
def Group.switchOn (x : Group) : ArmSwitch → Bool
  | .down => x.downSwitch
  | .up => x.upSwitch

/-- An end switch of a group read afresh. -/
def Group.setSwitch (x : Group) (w : ArmSwitch) (on : Bool) : Group :=
  match w with
  | .down => { x with downSwitch := on }
  | .up => { x with upSwitch := on }

/-- An end switch of a group read afresh. -/
def State.setArmSwitch (s : State) (g : GroupNo) (w : ArmSwitch) (on : Bool) : State :=
  s.modGroup g (·.setSwitch w on)

/-- A group not in use takes its state afresh from its end switches (R68). -/
def Group.afresh (x : Group) : Group :=
  if x.upSwitch && !x.downSwitch then x.settle .up
  else if x.downSwitch && !x.upSwitch then x.settle .down
  else { x.settle .fault with cause := if x.cause.isSome then x.cause else some .barrierSwitches }

/-- An arm knocked off its rest: the end switch of a settled group turns off (R68). -/
def Group.knockedOff (x : Group) (w : ArmSwitch) (on : Bool) : Bool :=
  !on && ((x.state == .down && w == .down) || (x.state == .up && w == .up))

/-- What a group does at a change of an end switch, in the order of R68 and R65. -/
def State.armSwitched (s : State) (g : GroupNo) (w : ArmSwitch) (on : Bool) : State :=
  let x := s.group g
  if !s.inUse g then s.modGroup g Group.afresh
  else if x.downSwitch && x.upSwitch then s.groupToFault g .barrierSwitches
  else if x.knockedOff w on then s.groupToFault g .barrierSwitches
  else if on && x.state == .goingDown && w == .down then s.groupDown g
  else if on && x.state == .goingUp && w == .up then s.groupUp g
  else s

/-- BARRIER_END_SWITCH_CHANGE (R65, R68). -/
def execBarrierEndSwitchChange (group : GroupNo) (switch : ArmSwitch) (on : Bool) (s : State) :
    Host.Outcome State Fault Refusal :=
  pin s ((s.group group).switchOn switch == on) (·.setArmSwitch group switch on)
    fun s => (s.armSwitched group switch on).finish

/-- BARRIER_STROKE_TIMEOUT (R65, R69). -/
def execBarrierStrokeTimeout (group : GroupNo) (s : State) : Host.Outcome State Fault Refusal :=
  act s fun s => s.expire (s.group group).strokeTimer fun s => (s.groupToFault group .barrierTimeout).finish

/-- A group's obstruction input read afresh. -/
def State.setObstruction (s : State) (g : GroupNo) (on : Bool) : State :=
  s.modGroup g fun x => { x with obstruction := on }

/-- What a group does at a change of its obstruction input (R67). -/
def State.obstructionChanged (s : State) (g : GroupNo) (on : Bool) : State :=
  match (s.group g).state with
  | .goingDown =>
    if on then
      (s.modGroup g fun x => { x with state := .obstructed, strokeTimer := none, clearTimer := none }).raise
        .laneObstructed
    else s
  | .obstructed => s.modGroup g fun x => { x with clearTimer := if on then none else s.inMs 3000 }
  | _ => s

/-- OBSTRUCTION_INPUT_CHANGE (R67). -/
def execObstructionInputChange (group : GroupNo) (on : Bool) (s : State) : Host.Outcome State Fault Refusal :=
  pin s ((s.group group).obstruction == on) (·.setObstruction group on)
    fun s => (s.obstructionChanged group on).finish

/-- OBSTRUCTION_CLEAR_EXPIRY: the group asks afresh, or holds its request (R67, R70). -/
def execObstructionClearExpiry (group : GroupNo) (s : State) : Host.Outcome State Fault Refusal :=
  act s fun s =>
    if (s.group group).state == .obstructed then
      s.expire (s.group group).clearTimer fun s => (s.askArm group .down).finish
    else s

end Sys2Proof.Machine
end

