-- ==== Sys2Proof/Machine/LampCommands.lean ====
section
/-! DEFINITION. The commands and events of the Signal Lamp Unit (Section 5). -/

namespace Sys2Proof.Machine

/-! ### Events -/

/-- The flash phase alternates, and the next half-period runs (R94). -/
def State.turnPhase (s : State) : State :=
  { s with lamps := { s.lamps with
    phaseB := !s.lamps.phaseB
    flashTimer := s.lamps.flashTimer.map (· + s.halfPeriod) } }

/-- FLASH_PHASE_CHANGE: the flashing elements are relit or darkened (R93, R94). -/
def execFlashPhaseChange (s : State) : Host.Outcome State Fault Refusal :=
  act s fun s => s.expire s.lamps.flashTimer fun s => s.turnPhase.lampStage

/-- A channel's current sense read afresh. -/
def State.setSense (s : State) (c : ChannelNo) (b : Bool) : State := s.modChannel c fun x => { x with sense := b }

/-- A channel's timers at a change of its sense, by its drive (R96, R97). -/
def Channel.senseTurns (x : Channel) (s : State) : Channel :=
  match x.drive with
  | .lit => { x with noCurrent := if x.sense then none else s.inMs 300 }
  | .off => { x with darkCurrent := x.darkTimer s }
  | .test => x

/-- CURRENT_SENSE_CHANGE (R96, R97). -/
def execCurrentSenseChange (channel : ChannelNo) (present : Bool) (s : State) : Host.Outcome State Fault Refusal :=
  pin s ((s.channel channel).sense == present) (·.setSense channel present)
    fun s => s.modChannel channel (·.senseTurns s)

/-- NO_CURRENT_EXPIRY (R96). -/
def execNoCurrentExpiry (channel : ChannelNo) (s : State) : Host.Outcome State Fault Refusal :=
  act s fun s => s.expire (s.channel channel).noCurrent fun s => (s.channelFails channel false).finish

/-- DARK_CURRENT_EXPIRY (R97). -/
def execDarkCurrentExpiry (channel : ChannelNo) (s : State) : Host.Outcome State Fault Refusal :=
  act s fun s => s.expire (s.channel channel).darkCurrent fun s => (s.channelFails channel true).finish

/-- The verdict of a test: a pass makes the channel GOOD, a failure of a GOOD channel is an entry to FAILED_OPEN, and the
dark channel is timed afresh (R99). -/
def State.verdict (s : State) (c : ChannelNo) : State :=
  let x := s.channel c
  if x.sense then s.modChannel c fun x => { x.darken s with state := .good }
  else if x.state == .good then s.channelFails c false
  else s.modChannel c (·.darken s)

/-- TEST_PULSE_END (R98, R99). -/
def execTestPulseEnd (s : State) : Host.Outcome State Fault Refusal :=
  act s fun s =>
    s.expire s.lamps.testTimer fun s =>
      match s.lamps.underTest with
      | some c => (s.endTest.verdict c).finish
      | none => s.endTest

/-- The periodic proving timer started again (R100). -/
def State.restartPeriodic (s : State) : State :=
  { s with lamps := { s.lamps with periodicTimer := s.lamps.periodicTimer.map (· + 60000) } }

/-- The channels that the periodic pass places (R100). -/
def State.passed (s : State) : List ChannelNo :=
  (List.finRange 48).filter fun c => s.placeable c && c ∉ s.lamps.proving

/-- PERIODIC_PROVING_EXPIRY (R100). -/
def execPeriodicProvingExpiry (s : State) : Host.Outcome State Fault Refusal :=
  act s fun s =>
    s.expire s.lamps.periodicTimer fun s =>
      (s.restartPeriodic.setProving (s.lamps.proving ++ s.passed)).lampStage

/-! ### Commands -/

/-- The channels of a head that PROVE HEAD places, in number order (R101). -/
def State.provedChannels (s : State) (h : HeadNo) : List ChannelNo :=
  (List.finRange 48).filter fun c => (s.channel c).assignment.map (·.head) == some h && s.placeable c

/-- Channels moved to the head of the proving list (R101, R108). -/
def State.placeFirst (s : State) (cs : List ChannelNo) : State :=
  s.setProving (cs ++ s.lamps.proving.filter (· ∉ cs))

/-- PROVE_HEAD (R101). -/
def execProveHead (head : Byte) (s : State) : Host.Outcome State Fault Refusal :=
  act s fun s =>
    match finOf 14 head with
    | none => s.refuse .noSuchRecord
    | some h =>
      let cs := s.provedChannels h
      (s.placeFirst cs).lampStage.respond .accepted [byteOf cs.length]

/-- CLEAR LAMP FAILURE is refused (R108). -/
def Channel.clearRefused (x : Channel) : Bool := x.assignment.isNone || x.state != .failedStuck || x.sense

/-- A stuck channel cleared, first to be tested (R108). -/
def State.clearStuck (s : State) (c : ChannelNo) : State :=
  (s.modChannel c fun x => { x with state := .good, drive := .off, darkCurrent := none }).placeFirst [c]

/-- CLEAR_LAMP_FAILURE (R108). The rest of the act drives the channel LIT where its element is wanted lit and it is the
string that R95 chooses, and its test is then skipped (log entry 46). -/
def execClearLampFailure (channel : Byte) (s : State) : Host.Outcome State Fault Refusal :=
  act s fun s =>
    match finOf 48 channel with
    | none => s.refuse .noSuchRecord
    | some c => if (s.channel c).clearRefused then s.refuse .notPermitted else (s.clearStuck c).finish.accept

/-- Every failure counter 0 and the first-failure record absent (R109). -/
def State.clearCounts (s : State) : State :=
  { s with lamps := { s.lamps with
    channels := mapTable (fun x => { x with failures := 0 }) s.lamps.channels
    firstFailure := none } }

/-- CLEAR_LAMP_COUNTS (R109). -/
def execClearLampCounts (s : State) : Host.Outcome State Fault Refusal := act s fun s => s.clearCounts.accept

end Sys2Proof.Machine
end

