-- ==== Sys2Proof/Machine/LaneCommands.lean ====
section
/-! DEFINITION. The lane commands and the lane timers (Sections 3 and 4). -/

namespace Sys2Proof.Machine

/-- The present lane that a lane number names (R63, R64, R72, R86). -/
def State.presentLane (s : State) (lane : Byte) : Option LaneNo := (finOf 12 lane).filter fun l => (s.lane l).present

/-- The lanes that a hold on a lane covers: every present lane of its group, or the lane alone without one (R63). -/
def State.heldTogether (s : State) (l : LaneNo) : List LaneNo :=
  match (s.lane l).group with
  | some g => s.lanesOf g
  | none => [l]

/-! ### Holds (R63, R64) -/

/-- The hold after HOLD LANE (R63). -/
def Hold.after (h : Hold) (down : Bool) : Hold := if down then .holdDown else if h == .free then .hold else h

/-- What a lane does of itself as a hold is put on it: CLOSED becomes HELD, and RELEASING acts as for a closing call
becoming true; an OPEN lane begins to close by its reaction (R61, R63). -/
def State.heldActs (s : State) (l : LaneNo) : State :=
  match (s.lane l).state with
  | .closed => s.modLane l (·.enter .held)
  | .releasing => s.releasingRecalled l
  | _ => s

/-- A hold put on lanes (R63). -/
def State.putHold (s : State) (ls : List LaneNo) (down : Bool) : State :=
  ls.foldl State.heldActs (ls.foldl (fun s l => s.modLane l fun x => { x with hold := x.hold.after down }) s)

/-- HOLD_LANE (R63). -/
def execHoldLane (lane holdDown : Byte) (s : State) : Host.Outcome State Fault Refusal :=
  act s fun s =>
    if !Instr.wellFormed (.holdLane lane holdDown) then s.refuse .notPermitted
    else
      match s.presentLane lane with
      | none => s.refuse .noSuchRecord
      | some l => (s.putHold (s.heldTogether l) (holdDown == 1)).finish.accept

/-- What a lane does as its hold becomes NONE (R64). -/
def State.releaseActs (s : State) (l : LaneNo) : State :=
  if (s.lane l).state == .held then
    if s.road.closureDemand then s.modLane l (·.enter .closed)
    else if (s.lane l).group.isNone then s.modLane l (·.enter .isOpen)
    else s.modLane l (·.enter .releasing)
  else if s.road.closureDemand then s
  else s.callFalls l

/-- Holds taken off lanes (R64). -/
def State.takeHold (s : State) (ls : List LaneNo) : State :=
  ls.foldl State.releaseActs (ls.foldl (fun s l => s.modLane l fun x => { x with hold := .free }) s)

/-- RELEASE_HOLD (R64). -/
def execReleaseHold (lane : Byte) (s : State) : Host.Outcome State Fault Refusal :=
  act s fun s =>
    match s.presentLane lane with
    | none => s.refuse .noSuchRecord
    | some l =>
      match (s.lane l).hold with
      | .holdDown => s.refuse .heldDown
      | .free => s.refuse .notPermitted
      | .hold => (s.takeHold (s.heldTogether l)).finish.accept

/-! ### RELEASE ROAD (R62) -/

/-- Every present lane CLOSED with kept closed set enters RELEASING (R62). -/
def State.releaseKept (s : State) : State :=
  s.presentLanes.foldl
    (fun s l => if (s.lane l).state == .closed && (s.lane l).keptClosed then s.modLane l (·.enter .releasing) else s) s

/-- RELEASE_ROAD (R62). -/
def execReleaseRoad (s : State) : Host.Outcome State Fault Refusal :=
  act s fun s =>
    if s.road.closureDemand || s.motion.pair.state != .locked then s.refuse .notPermitted
    else s.releaseKept.finish.accept

/-! ### Re-reading a lane (R72, R86) -/

/-- A lane re-read with its arm down: HELD under a hold, else CLOSED, kept closed where nothing calls it (R72). -/
def State.rereadDown (s : State) (l : LaneNo) : State :=
  let call := s.closingCall l
  s.modLane l fun x => if x.hold == .free then { x.enter .closed with keptClosed := !call } else x.enter .held

/-- A lane re-read with its arm up, or without an arm: CLEARING where it is called to close, else OPEN (R72). -/
def State.rereadUp (s : State) (l : LaneNo) : State :=
  if s.closingCall l then s.enterClearing l else s.modLane l (·.enter .isOpen)

/-- The lanes of a group that CLEAR LANE FAULT re-reads: in FAULT with a cause other than TRAM_COUNT (R72). -/
def State.rereadLanes (s : State) (g : GroupNo) : List LaneNo :=
  (s.lanesOf g).filter fun l => (s.lane l).state == .fault && (s.lane l).cause != some .tramCount

/-- The tests that refuse CLEAR LANE FAULT before the switches are read (R72). -/
def State.clearRefused (s : State) (l : LaneNo) (g : GroupNo) : Bool :=
  let x := s.lane l
  (x.state != .fault && (s.group g).state != .fault) || (x.state == .fault && x.cause == some .tramCount)

/-- The third case of R72: the switches are both on or both off (log entry 19). -/
def State.switchesDisagree (s : State) (g : GroupNo) : State :=
  if (s.group g).state == .fault then s.modGroup g fun x => { x with cause := some .barrierSwitches }
  else s.groupToFault g .barrierSwitches

/-- CLEAR LANE FAULT of a lane and its group (R72). -/
def State.clearFault (s : State) (g : GroupNo) : State :=
  let x := s.group g
  let ls := s.rereadLanes g
  if x.downSwitch && !x.upSwitch then (ls.foldl State.rereadDown (s.groupDown g)).finish.accept
  else if x.upSwitch && !x.downSwitch then (ls.foldl State.rereadUp (s.groupUp g)).finish.accept
  else (s.switchesDisagree g).finish.refuse .notPermitted

/-- CLEAR_LANE_FAULT (R72). -/
def execClearLaneFault (lane : Byte) (s : State) : Host.Outcome State Fault Refusal :=
  act s fun s =>
    match s.presentLane lane with
    | none => s.refuse .noSuchRecord
    | some l =>
      match (s.lane l).group with
      | none => s.refuse .notPermitted
      | some g => if s.clearRefused l g then s.refuse .notPermitted else s.clearFault g

/-- A TRAM lane in FAULT with cause TRAM_COUNT re-read by ACK TRAM COUNT (R72). -/
def State.rereadTram (s : State) (l : LaneNo) : State :=
  match (s.lane l).group with
  | none => s.rereadUp l
  | some g =>
    match (s.group g).state with
    | .fault => s.modLane l fun x => { x with cause := (s.group g).cause.map GroupFault.forLane }
    | .down => s.rereadDown l
    | .up => s.rereadUp l
    | .awaitDown | .goingDown | .obstructed => s.modLane l (·.enter .securing)
    | .awaitUp | .goingUp => s.modLane l (·.enter .releasing)
    | .stopped => s.modLane l (·.enter (if (s.group g).heldStroke == some .up then .releasing else .securing))

/-- ACK TRAM COUNT of a TRAM lane (R86). A lane in CLEARING whose commitment time has expired goes on by its reaction. -/
def State.ackTram (s : State) (l : LaneNo) : State :=
  let t := s.modLane l fun x => { x with count := 0 }
  if (s.lane l).state == .fault && (s.lane l).cause == some .tramCount then t.rereadTram l else t

/-- ACK_TRAM_COUNT (R86). -/
def execAckTramCount (lane : Byte) (s : State) : Host.Outcome State Fault Refusal :=
  act s fun s =>
    match s.presentLane lane with
    | none => s.refuse .noSuchRecord
    | some l => if (s.lane l).kind != .tram then s.refuse .notPermitted else (s.ackTram l).finish.accept

/-! ### The lane timers (R55, R57, R58, R85) -/

/-- The amber time runs out: sub-phase RED, timed afresh (R55). -/
def State.amberToRed (s : State) (l : LaneNo) : State :=
  s.modLane l fun x => { x with subPhase := some .red, timer := s.inSeconds (s.cfg Entry.redTime) }

/-- A lane's timer stopped. -/
def State.stopLaneTimer (s : State) (l : LaneNo) : State := s.modLane l fun x => { x with timer := none }

/-- A present lane is in WARNING with a sub-phase. -/
def State.warningIn (s : State) (l : LaneNo) (p : SubPhase) : Bool :=
  (s.lane l).present && (s.lane l).state == .warning && (s.lane l).subPhase == some p

/-- AMBER_EXPIRY (R55). -/
def execAmberExpiry (lane : LaneNo) (s : State) : Host.Outcome State Fault Refusal :=
  act s fun s =>
    if s.warningIn lane .amber then s.expire (s.lane lane).timer fun s => (s.amberToRed lane).finish else s

/-- RED_EXPIRY: the lane goes on by its reaction, unless an element of its road warning head is DARK, which raises
HEAD_DARK (R55). -/
def execRedExpiry (lane : LaneNo) (s : State) : Host.Outcome State Fault Refusal :=
  act s fun s =>
    if s.warningIn lane .red then
      s.expire (s.lane lane).timer fun s =>
        ((s.stopLaneTimer lane).raiseIf (s.warningDark (s.lane lane).approach) .headDark).finish
    else s

/-- TRAM_COMMIT_EXPIRY: from here the lane waits for its count alone (R57, R85). -/
def execTramCommitExpiry (lane : LaneNo) (s : State) : Host.Outcome State Fault Refusal :=
  act s fun s =>
    if (s.lane lane).present && (s.lane lane).kind == .tram && (s.lane lane).state == .clearing then
      s.expire (s.lane lane).timer fun s => (s.stopLaneTimer lane).finish
    else s

/-- DECK_CLEAR_EXPIRY (R58). -/
def execDeckClearExpiry (s : State) : Host.Outcome State Fault Refusal :=
  act s fun s =>
    match s.road.deck with
    | .running due =>
      let t := s.reach due
      State.finish { t with road := { t.road with deck := .expired } }
    | _ => s

end Sys2Proof.Machine
end

