-- ==== Sys2Proof/Machine/Motion.lean ====
section
/-! DEFINITION. The motion computation (Section 7): the angle stage and the demand stage of one motion period, and
the tests of the counts at the leaves' own switches (R116). -/

namespace Sys2Proof.Machine

/-! ### The angle stage (R138 to R140) -/

/-- COUNTS_FULL of a leaf (R116). -/
def State.countsFull (s : State) : Side → Nat
  | .n => s.cfg Entry.countsFullN
  | .s => s.cfg Entry.countsFullS

/-- R138. -/
def angleOf (count countsFull angleFull : Nat) : Nat := (count * angleFull + countsFull / 2) / countsFull

/-- A leaf's angle from its count as sampled, absent while the count is not valid (R138). -/
def State.sampledAngle (s : State) (i : Side) : Option Nat :=
  if (s.leaf i).countValid then some (angleOf (s.leaf i).count (s.countsFull i) (s.cfg Entry.angleFull)) else none

/-- The distance of two numbers. -/
def distance (a b : Nat) : Nat := max a b - min a b

/-- The skew, absent while either angle is (R140). -/
def skewOf : Option Nat → Option Nat → Option Nat
  | some a, some b => some (distance a b)
  | _, _ => none

/-- The record that the angle stage leaves: counts, angles and skew, and the figures of a demand stage that has not
run (R137, R151). -/
def State.angleRecord (s : State) : Period where
  number := s.motion.period.number + 1
  countN := s.motion.leafN.count
  countS := s.motion.leafS.count
  angleN := s.sampledAngle .n
  angleS := s.sampledAngle .s
  skew := skewOf (s.sampledAngle .n) (s.sampledAngle .s)
  lead := none
  limits := none
  pairDemand := 0
  correction := 0

/-- An angle is above ANGLE_FULL + 100 (R139). -/
def State.overtravels (s : State) (r : Period) : Bool :=
  let above (a : Nat) : Bool := decide (s.cfg Entry.angleFull + 100 < a)
  s.motion.pair.state != .fault && (r.angleN.any above || r.angleS.any above)

/-- The skew-warning flag follows the skew, and SKEW_WARNING is raised as it passes from clear to set (R140). -/
def State.warnSkew (s : State) (skew : Option Nat) : State :=
  let warn := skew.any fun e => decide (s.cfg Entry.skewWarn ≤ e)
  (s.modPair fun p => { p with skewWarning := warn }).raiseIf (warn && !s.motion.pair.skewWarning) .skewWarning

/-- The angle stage: the record, the overtravel test, then the skew warning (R138 to R140). -/
def State.angleStage (s : State) : State :=
  let r := s.angleRecord
  let t := { s with motion := { s.motion with
    period := r
    leafN := { s.motion.leafN with demand := 0 }
    leafS := { s.motion.leafS with demand := 0 } } }
  (if s.overtravels r then t.enterFault .overtravel else t).warnSkew r.skew

/-! ### The demand stage (R141 to R148) -/

/-- The demand stage runs in these states alone (R137). -/
def Pair.moving (p : Pair) : Bool :=
  match p.state with
  | .raising | .lowering | .seating => true
  | .recovering => p.step == some .creep
  | _ => false

/-- The angle of a leaf in the period record. -/
def Period.angle (r : Period) : Side → Option Nat
  | .n => r.angleN
  | .s => r.angleS

/-- A leaf has reached the 10 cdeg band of its target (R143); an absent angle has not. -/
def State.atTarget (s : State) (i : Side) : Bool :=
  (s.motion.period.angle i).any fun a => decide (s.motion.pair.target.getD 0 ≤ a + 10)

/-- A leaf is driven (R141). -/
def State.driven (s : State) (i : Side) : Bool :=
  if s.motion.pair.state == .raising then !s.atTarget i else !(s.leaf i).seat

/-- The leaf further along its travel: the larger angle in RAISING, the smaller otherwise (R141). -/
def leadOf (raising : Bool) (n s : Nat) : Lead :=
  if n = s then .both else if decide (s < n) == raising then .n else .s

/-- The lead leaf of the period (R141, R148). -/
def State.leadLeaf (s : State) : Lead :=
  if s.driven .n && s.driven .s then
    match s.motion.period.angleN, s.motion.period.angleS with
    | some a, some b => leadOf (s.motion.pair.state == .raising) a b
    | _, _ => .both
  else .both

/-- The leaf from which the distance is measured: the lag leaf, the one driven leaf, or either (R141, R144). -/
def State.lagLeaf (s : State) : Side :=
  match s.leadLeaf with
  | .n => .s
  | .s => .n
  | .both => if s.driven .n then .n else .s

/-- The distance D of the lag leaf from its goal (R144). -/
def State.goalDistance (s : State) : Nat :=
  let a := (s.motion.period.angle s.lagLeaf).getD 0
  if s.motion.pair.state == .raising then distance (s.motion.pair.target.getD 0) a else a

/-- R144's table. -/
def distanceLimit (creepSpeed creepZone span d : Nat) : Nat :=
  if d ≤ creepZone then creepSpeed
  else if creepZone + span ≤ d then 1000
  else creepSpeed + (1000 - creepSpeed) * (d - creepZone) / span

/-- The distance limit of the period (R144). -/
def State.distLimit (s : State) : Nat :=
  let creep := s.cfg Entry.creepSpeed
  match s.motion.pair.state with
  | .raising | .lowering => distanceLimit creep (s.cfg Entry.creepZone) (s.cfg Entry.slowdownSpan) s.goalDistance
  | _ => creep

/-- R145's table. -/
def windLimitOf (valid : Bool) (w derate stop : Nat) : Nat :=
  if !valid || decide (stop ≤ w) then 400
  else if w ≤ derate then 1000
  else 1000 - 600 * (w - derate) / (stop - derate)

/-- The wind limit of the period (R145). -/
def State.windLimit (s : State) : Nat :=
  windLimitOf s.wind.valid s.wind.reading (s.cfg Entry.windDerate) (s.cfg Entry.windStop)

/-- The pair demand: the limit, reached by RAMP_STEP at most from the ramp base (R146). -/
def State.pairDemand (s : State) : Nat :=
  min (min s.distLimit s.windLimit) (s.motion.rampBase + s.cfg Entry.rampStep)

/-- The correction that the lead leaf suffers, 0 without one (R147); it is kept within the 0 to 1000 of the record's
field (R137), which leaves every demand as it is (log entry 41). -/
def State.correction (s : State) : Nat :=
  match s.leadLeaf with
  | .both => 0
  | _ => min 1000 ((s.motion.period.skew.getD 0) * s.cfg Entry.skewGain / 16)

/-- A leaf's demand (R147): d, less the correction for the lead leaf; 0 for a leaf that is not driven. -/
def State.leafDemand (s : State) (i : Side) : Nat :=
  if s.driven i then
    if (s.leadLeaf = .n ∧ i = .n) ∨ (s.leadLeaf = .s ∧ i = .s) then s.pairDemand - s.correction else s.pairDemand
  else 0

/-- The demands of the period written to the outputs and the record (R144 to R148). -/
def State.writeDemands (s : State) : State :=
  let r : Period :=
    { s.motion.period with
      lead := some s.leadLeaf
      limits := some { dist := s.distLimit, wind := s.windLimit, limit := min s.distLimit s.windLimit }
      pairDemand := s.pairDemand
      correction := s.correction }
  { s with motion := { s.motion with
    period := r
    rampBase := s.pairDemand
    leafN := { s.motion.leafN with demand := s.leafDemand .n }
    leafS := { s.motion.leafS with demand := s.leafDemand .s } } }

/-- The larger of the two angles is at or below CREEP_ZONE (R143). -/
def State.inCreepZone (s : State) : Bool :=
  match s.motion.period.angleN, s.motion.period.angleS with
  | some a, some b => decide (max a b ≤ s.cfg Entry.creepZone)
  | _, _ => false

/-- The demand stage: the skew trip, then the moves to OPEN and SEATING, then the demands (R142 to R148). The ramp base
is kept as LOWERING becomes SEATING (R146). A period that trips or enters OPEN records no lead leaf and no limits (log
entry 42). -/
def State.demandStage (s : State) : State :=
  if !s.motion.pair.moving then s
  else if s.motion.period.skew.any fun e => decide (s.cfg Entry.skewTrip ≤ e) then s.enterFault .skewTrip
  else
    match s.motion.pair.state with
    | .raising => if s.atTarget .n && s.atTarget .s then s.enterPair .isOpen else s.writeDemands
    | .lowering =>
      if s.inCreepZone then (s.modPair fun p => { p with state := .seating }).writeDemands else s.writeDemands
    | _ => s.writeDemands

/-- One motion period (R137). -/
def State.period (s : State) : State := s.angleStage.demandStage

/-! ### The counts at the switches (R116) -/

/-- An encoder step, saturating at 0 and 65535 (R116). -/
def Leaf.step (x : Leaf) : Travel → Leaf
  | .raise => { x with count := min 65535 (x.count + 1) }
  | .lower => { x with count := x.count - 1 }

/-- The count of a leaf is made not valid and the pair enters FAULT with cause ENCODER_MISMATCH (R116, R125). -/
def State.encoderMismatch (s : State) (i : Side) : State :=
  (s.modLeaf i fun x => { x with countValid := false }).enterFault .encoderMismatch

/-- The seat event stops a leaf that comes down: in LOWERING, SEATING and RECOVERING alone (R123, R134, R149). -/
def PairState.stopsAtSeat : PairState → Bool
  | .lowering | .seating | .recovering => true
  | _ => false

/-- The seat event of a leaf, in any pair state: the count is set to 0 and made valid, or is out of tolerance (R116); a
leaf that comes down takes demand 0 (R123, R149). -/
def State.seatLeaf (s : State) (i : Side) : State :=
  let stops := s.motion.pair.state.stopsAtSeat
  let t := s.modLeaf i fun x => { x with seat := true, demand := if stops then 0 else x.demand }
  if (s.leaf i).countValid && decide (s.countsFull i / 100 < (s.leaf i).count) then t.encoderMismatch i
  else t.modLeaf i fun x => { x with count := 0, countValid := true }

/-- The full-open event of a leaf: the count is tested against COUNTS_FULL (R116). -/
def State.fullOpenLeaf (s : State) (i : Side) : State :=
  let t := s.modLeaf i fun x => { x with fullOpen := true }
  let full := s.countsFull i
  let c := (s.leaf i).count
  if (s.leaf i).countValid && s.motion.pair.state != .fault
      && (decide (c < full - full / 100) || decide (full + full / 100 < c)) then t.encoderMismatch i
  else t

end Sys2Proof.Machine
end

