-- ==== Sys2Proof/Machine/LeafEvents.lean ====
section
/-! DEFINITION. The commands and events of the Leaf Motion Controller (Sections 6 and 7). -/

namespace Sys2Proof.Machine

/-! ### Encoders and the leaves' switches (R116, R123, R124) -/

/-- ENCODER_STEP (R116). -/
def execEncoderStep (leaf : Side) (direction : Travel) (s : State) : Host.Outcome State Fault Refusal :=
  act s fun s => s.modLeaf leaf (·.step direction)

/-- A leaf's seat switch as read. -/
def State.setSeat (s : State) (i : Side) (on : Bool) : State := s.modLeaf i fun x => { x with seat := on }

/-- A leaf's full-open switch as read. -/
def State.setFullOpen (s : State) (i : Side) (on : Bool) : State := s.modLeaf i fun x => { x with fullOpen := on }

/-- SEAT_SWITCH_ON (R116, R123). -/
def execSeatSwitchOn (leaf : Side) (s : State) : Host.Outcome State Fault Refusal :=
  pin s (s.leaf leaf).seat (·.setSeat leaf true) fun s => (s.seatLeaf leaf).finish

/-- A seat switch turned off in LOCKING or LOCKED, or HALTED out of one, is SEAT_LOST (R124, R125). -/
def State.seatLost (s : State) : State :=
  match s.motion.pair.effective with
  | .locking | .locked => s.enterFault .seatLost
  | _ => s

/-- SEAT_SWITCH_OFF (R124). -/
def execSeatSwitchOff (leaf : Side) (s : State) : Host.Outcome State Fault Refusal :=
  pin s (!(s.leaf leaf).seat) (·.setSeat leaf false) fun s => s.seatLost.finish

/-- FULL_OPEN_SWITCH_ON (R116). -/
def execFullOpenSwitchOn (leaf : Side) (s : State) : Host.Outcome State Fault Refusal :=
  pin s (s.leaf leaf).fullOpen (·.setFullOpen leaf true) fun s => (s.fullOpenLeaf leaf).finish

/-- FULL_OPEN_SWITCH_OFF (R116). -/
def execFullOpenSwitchOff (leaf : Side) (s : State) : Host.Outcome State Fault Refusal :=
  pin s (!(s.leaf leaf).fullOpen) (·.setFullOpen leaf false) id

/-! ### Locks (R119) -/

/-- An end switch of a lock as read. -/
def Lock.setSwitch (k : Lock) (w : LockSwitch) (on : Bool) : Lock :=
  match w with
  | .driven => { k with drivenSwitch := on }
  | .withdrawn => { k with withdrawnSwitch := on }

/-- An end switch of a lock as read. -/
def State.setLockSwitch (s : State) (k : LockId) (w : LockSwitch) (on : Bool) : State := s.modLock k (·.setSwitch w on)

/-- The end switch of a stroke's direction turning on ends the stroke (R119). -/
def Lock.switched (k : Lock) (w : LockSwitch) (on : Bool) : Lock :=
  if on && k.state == .stroking && k.stroke.map LockStroke.switch == some w then k.strokeEnds else k

/-- LOCK_END_SWITCH_CHANGE (R119). -/
def execLockEndSwitchChange (lock : LockId) (switch : LockSwitch) (on : Bool) (s : State) :
    Host.Outcome State Fault Refusal :=
  pin s ((s.lock lock).switchOn switch == on) (·.setLockSwitch lock switch on)
    fun s => (s.modLock lock (·.switched switch on)).finish

/-- A lock whose stroke has timed out (R119; log entry 27). -/
def Lock.timesOut (k : Lock) : Lock := { k with state := .fault, stroke := none, timer := none }

/-- LOCK_STROKE_TIMEOUT (R119, R125). -/
def execLockStrokeTimeout (lock : LockId) (s : State) : Host.Outcome State Fault Refusal :=
  act s fun s =>
    s.expire (s.lock lock).timer fun s => ((s.modLock lock Lock.timesOut).enterFault .lockTimeout).finish

/-! ### Pumps (R121) -/

/-- A pump's running input as read. -/
def State.setRunning (s : State) (i : Side) (on : Bool) : State := s.modPump i fun x => { x with runningInput := on }

/-- What a change of its running input does to a pump and the pair (R121). -/
def State.pumpTurns (s : State) (i : Side) (on : Bool) : State :=
  match (s.pump i).state, on with
  | .starting, true => s.modPump i Pump.proven
  | .running, false => s.enterFault .pumpTimeout
  | _, _ => s

/-- PUMP_RUNNING_INPUT_CHANGE (R121). -/
def execPumpRunningInputChange (pump : Side) (on : Bool) (s : State) : Host.Outcome State Fault Refusal :=
  pin s ((s.pump pump).runningInput == on) (·.setRunning pump on) fun s => (s.pumpTurns pump on).finish

/-- A pump's start timer stopped. -/
def State.stopPumpTimer (s : State) (i : Side) : State := s.modPump i fun x => { x with timer := none }

/-- PUMP_START_TIMEOUT (R121, R125). -/
def execPumpStartTimeout (pump : Side) (s : State) : Host.Outcome State Fault Refusal :=
  act s fun s =>
    s.expire (s.pump pump).timer fun s => ((s.stopPumpTimer pump).enterFault .pumpTimeout).finish

/-! ### The pair (R118, R129, R131, R133) -/

/-- PAIR_UNLOCK (R118). -/
def execPairUnlock (s : State) : Host.Outcome State Fault Refusal :=
  act s fun s => if s.mayUnlock then s.unlock.finish else s

/-- CHANNEL leaves the halt causes, and a pair with none left resumes (R129). -/
def State.channelClears (s : State) : State :=
  let left := { s.motion.pair.halts with channel := false }
  let t := s.modPair fun p => { p with halts := left, channelTimer := none }
  if s.motion.pair.state == .halted && left == HaltSet.empty then t.resumePair else t

/-- CHANNEL_CLEAR_EXPIRY (R129). -/
def execChannelClearExpiry (s : State) : Host.Outcome State Fault Refusal :=
  act s fun s => s.expire s.motion.pair.channelTimer fun s => s.channelClears.finish

/-- Some cause in the set cannot be cleared by RESUME (R131); ESTOP is cleared by the E-stop being released, which
RESUME asks first. -/
def State.haltsStand (s : State) : Bool :=
  let h := s.motion.pair.halts
  h.channel || (h.wind && !s.windCalm) || (h.road && !s.roadSecured)

/-- RESUME is refused (R131). -/
def State.resumeRefused (s : State) : Bool := s.motion.estop || (s.motion.pair.state == .halted && s.haltsStand)

/-- RESUME taken: a HALTED pair resumes, and the held barrier strokes are requested (R71, R131). -/
def State.resume (s : State) : State :=
  (if s.motion.pair.state == .halted then s.resumePair else s).resumeArms

/-- RESUME (R131). -/
def execResume (s : State) : Host.Outcome State Fault Refusal :=
  act s fun s => if s.resumeRefused then s.refuse .notPermitted else s.resume.finish.accept

/-- A seated leaf whose count is not valid takes count 0 and is made valid (R133). -/
def Leaf.refer (x : Leaf) : Leaf := if x.seat && !x.countValid then { x with count := 0, countValid := true } else x

/-- Where RECOVER takes the pair (R133). -/
def State.recoverTo (s : State) : State :=
  if s.bothSeated then
    if allLocks.all fun k => (s.lock k).state == .driven then s.enterLocked else s.enterPair .locking
  else (s.enterPair .recovering).modPair fun p => { p with step := some .withdraw }

/-- RECOVER taken (R133). -/
def State.recover (s : State) : State :=
  (((s.modLeaf .n Leaf.refer).modLeaf .s Leaf.refer).modPair fun p => { p with cause := none }).recoverTo

/-- RECOVER (R133). -/
def execRecover (s : State) : Host.Outcome State Fault Refusal :=
  act s fun s =>
    if s.motion.pair.state != .fault then s.refuse .busy
    else if !s.roadSecured || s.motion.estop then s.refuse .notPermitted
    else s.recover.finish.accept

/-! ### The E-stop (R132, R167) -/

/-- The E-stop's level as read; `true` is active. -/
def State.setEstopRaw (s : State) (b : Bool) : State := { s with motion := { s.motion with estopRaw := b } }

/-- The 20 ms of the E-stop filter begin anew at a raw change (R132; log entry 33). -/
def State.timeEstop (s : State) : State :=
  { s with motion := { s.motion with
    estopTimer := if s.motion.estopRaw == s.motion.estop then none else s.inMs 20 } }

/-- ESTOP_INPUT_CHANGE (R132). -/
def execEstopInputChange (active : Bool) (s : State) : Host.Outcome State Fault Refusal :=
  pin s (s.motion.estopRaw == active) (·.setEstopRaw active) State.timeEstop

/-- The filtered E-stop turns (R132). -/
def State.turnEstop (s : State) (b : Bool) : State := { s with motion := { s.motion with estop := b, estopTimer := none } }

/-- The E-stop becoming active: the queue is emptied with its starts held, the groups stop or hold, and E_STOP is
raised; the halt and the return of a member in PROCEED follow as reactions (R132, R167). -/
def State.estopActs (s : State) : State := ((s.turnEstop true).emptyQueue.estopGroups).raise .eStop

/-- ESTOP_ACTIVE (R132). -/
def execEstopActive (s : State) : Host.Outcome State Fault Refusal :=
  act s fun s =>
    if s.motion.estopRaw && !s.motion.estop then s.expire s.motion.estopTimer fun s => s.estopActs.finish else s

/-- ESTOP_RELEASED (R132). -/
def execEstopReleased (s : State) : Host.Outcome State Fault Refusal :=
  act s fun s =>
    if !s.motion.estopRaw && s.motion.estop then
      s.expire s.motion.estopTimer fun s => (s.turnEstop false).finish
    else s

/-! ### The motion period (R137) -/

/-- The motion period timer started again (R137). -/
def State.restartPeriod (s : State) : State :=
  { s with motion := { s.motion with periodTimer := s.motion.periodTimer.map (· + 20) } }

/-- MOTION_PERIOD (R137). -/
def execMotionPeriod (s : State) : Host.Outcome State Fault Refusal :=
  act s fun s => s.expire s.motion.periodTimer fun s => s.restartPeriod.period.finish

end Sys2Proof.Machine
end

