-- ==== Sys2Proof/Machine/OpeningCommands.lean ====
section
/-! DEFINITION. The commands and events of an opening and of the span beam (Section 2). -/

namespace Sys2Proof.Machine

/-! ### Commands (R26, R37, R43) -/

/-- The tests of CALL OPENING, in their order (R26). -/
def State.callRefused (s : State) : Option Result :=
  if s.book.opening.isSome then some .busy
  else if s.site.invalid then some .notPermitted
  else if s.motion.pair.state != .locked then some .notPermitted
  else if s.readyTags = [] then some .notPermitted
  else none

/-- The response of a call: the opening number and the number of members (R26). -/
def Opening.callBody (o : Opening) : List Byte := two o.number ++ [byteOf o.members.length]

/-- CALL_OPENING (R26). -/
def execCallOpening (s : State) : Host.Outcome State Fault Refusal :=
  act s fun s =>
    match s.callRefused with
    | some r => s.refuse r
    | none => s.callOpening.finish.respond .accepted s.calledOpening.callBody

/-- DECLARE_LAST_CALL (R37). -/
def execDeclareLastCall (s : State) : Host.Outcome State Fault Refusal :=
  act s fun s =>
    match s.openingState with
    | none => s.refuse .notPermitted
    | some .lowering | some .releasing => s.refuse .busy
    | some _ => s.setLastCall.finish.accept

/-- ABORT_OPENING (R43). -/
def execAbortOpening (s : State) : Host.Outcome State Fault Refusal :=
  act s fun s =>
    match s.openingState with
    | none => s.refuse .notPermitted
    | some .lowering | some .releasing => s.refuse .busy
    | some .called => (s.membersReturn.enterOpening .releasing).finish.accept
    | some _ =>
      if (s.memberIn .passing).isSome then s.refuse .inTransit
      else (s.membersReturn.setLastCall.enterOpening .lowering).finish.accept

/-! ### What comes about of itself (R24, R29, R36) -/

/-- JOIN_DEADLINE (R36). -/
def execJoinDeadline (s : State) : Host.Outcome State Fault Refusal :=
  act s fun s => ((s.book.opening.bind (deadlineReaction s)).map State.finish).getD s

/-- AUTOMATIC_CALL (R24). -/
def execAutomaticCall (s : State) : Host.Outcome State Fault Refusal :=
  act s fun s => if s.mayCall then s.callOpening.finish else s

/-- PASSAGE_PROCEED (R29). -/
def execPassageProceed (s : State) : Host.Outcome State Fault Refusal :=
  act s fun s => if s.mayProceed then s.giveProceed.finish else s

/-! ### Timers (R32, R33, R41) -/

/-- The road-interval timer stopped. -/
def State.stopRoadTimer (s : State) : State := { s with book := { s.book with roadTimer := none } }

/-- ROAD_INTERVAL_EXPIRY (R41). -/
def execRoadIntervalExpiry (s : State) : Host.Outcome State Fault Refusal :=
  act s fun s => s.expire s.book.roadTimer fun s => s.stopRoadTimer.finish

/-- The direction-change timer stopped. -/
def State.stopDirectionTimer (s : State) : State := s.modOpening fun o => { o with directionTimer := none }

/-- DIRECTION_CHANGE_EXPIRY (R33). -/
def execDirectionChangeExpiry (s : State) : Host.Outcome State Fault Refusal :=
  act s fun s => s.expire (s.book.opening.bind (·.directionTimer)) fun s => s.stopDirectionTimer.finish

/-- The beam passage, where that member is in PASSING (R32). -/
def State.passingBeam (s : State) : Option Tag :=
  (s.book.opening.bind (·.beamPassage)).filter fun t => s.statusOf t == some .passing

/-- The clear-confirm timer runs out: the beam passage becomes CLEARED, and is absent (R32). -/
def State.confirmClear (s : State) : State :=
  let t := s.modOpening fun o => { o with confirmTimer := none, beamPassage := none }
  match s.passingBeam with
  | some tag => t.enterCleared tag
  | none => t

/-- CLEAR_CONFIRM_EXPIRY (R32). -/
def execClearConfirmExpiry (s : State) : Host.Outcome State Fault Refusal :=
  act s fun s => s.expire (s.book.opening.bind (·.confirmTimer)) fun s => s.confirmClear.finish

/-! ### The span beam (R31, R32, R47, R48, R129) -/

/-- The span beam's level as read. -/
def State.setBeamRaw (s : State) (b : Bool) : State := { s with beam := { s.beam with raw := b } }

/-- The 500 ms of the beam filter begin anew at a raw change (R47; log entry 33). -/
def State.timeBeam (s : State) : State :=
  { s with beam := { s.beam with timer := if s.beam.raw == s.beam.filtered then none else s.inMs 500 } }

/-- SPAN_BEAM_INPUT_CHANGE (R47). -/
def execSpanBeamInputChange (interrupted : Bool) (s : State) : Host.Outcome State Fault Refusal :=
  pin s (s.beam.raw == interrupted) (·.setBeamRaw interrupted) State.timeBeam

/-- The filtered beam turns (R47). -/
def State.turnBeam (s : State) (b : Bool) : State := { s with beam := { s.beam with filtered := b, timer := none } }

/-- The channel-clear timer set (R129). -/
def State.setChannelTimer (s : State) (t : Timer) : State := s.modPair fun p => { p with channelTimer := t }

/-- The member that the beam interrupted becomes the beam passage, and its clear-confirm timer stops (R31, R32). -/
def State.beamTakes (s : State) (t : Tag) : State :=
  s.modOpening fun o => { o with beamPassage := some t, confirmTimer := none }

/-- The filtered beam turns INTERRUPTED: the member in PROCEED becomes PASSING and the beam passage, a member in PASSING
becomes the beam passage, and with neither CHANNEL_ALERT is raised (R31, R48). -/
def State.beamInterrupted (s : State) : State :=
  let t := (s.turnBeam true).setChannelTimer none
  match s.memberIn .proceed with
  | some tag => (t.becomePassing tag).beamTakes tag
  | none =>
    match s.memberIn .passing with
    | some tag => t.beamTakes tag
    | none => t.raise .channelAlert

/-- SPAN_BEAM_INTERRUPTED (R31, R47, R48). -/
def execSpanBeamInterrupted (s : State) : Host.Outcome State Fault Refusal :=
  act s fun s =>
    if s.beam.raw && !s.beam.filtered then s.expire s.beam.timer fun s => s.beamInterrupted.finish else s

/-- The clear-confirm timer started where the beam passage is in PASSING (R32). -/
def State.startConfirm (s : State) : State :=
  if s.passingBeam.isSome then s.modOpening fun o => { o with confirmTimer := s.inSeconds (s.cfg Entry.clearConfirm) }
  else s

/-- The filtered beam turns CLEAR: the clear-confirm timer and, with CHANNEL in the set, the channel-clear timer start
(R32, R129). -/
def State.beamClear (s : State) : State :=
  let t := (s.turnBeam false).startConfirm
  if s.motion.pair.halts.channel then t.setChannelTimer (s.inSeconds (s.cfg Entry.clearConfirm)) else t

/-- SPAN_BEAM_CLEAR (R32, R47, R129). -/
def execSpanBeamClear (s : State) : Host.Outcome State Fault Refusal :=
  act s fun s =>
    if !s.beam.raw && s.beam.filtered then s.expire s.beam.timer fun s => s.beamClear.finish else s

end Sys2Proof.Machine
end

