-- ==== Sys2Proof/Machine/Detectors.lean ====
section
/-! DEFINITION. The Detector Inputs (Section 4): filters, presence, tram section counts, and their events. -/

namespace Sys2Proof.Machine

/-! ### Restart of a filter (R87, R88) -/

/-- A detector input brought to the state of R87 for the role it has: a presence input found active is timed for 200 ms,
a pulse filter found with its input inactive for 40 ms, and an unassigned input is not filtered (R76). -/
def State.restartDetector (s : State) (i : InputNo) : State :=
  let role := (s.inputRole i).map Prod.snd
  s.modDetector i fun d =>
    { level := d.level
      presence := false
      stability := if role == some .presence && d.level then s.inMs 200 else none
      pulse := .counted
      pulseTimer := if (role == some .entry || role == some .exit) && !d.level then s.inMs 40 else none }

/-! ### Levels (R77, R80) -/

/-- A detector input's level as read. -/
def State.setDetectorLevel (s : State) (i : InputNo) (b : Bool) : State := s.modDetector i fun d => { d with level := b }

/-- A pulse filter at a change of its input (R80). -/
def Detector.pulseChange (d : Detector) (s : State) : Detector :=
  match d.pulse, d.level with
  | .waiting, true => { d with pulse := .timing, pulseTimer := s.inMs 40 }
  | .timing, false => { d with pulse := .waiting, pulseTimer := none }
  | .counted, false => { d with pulseTimer := s.inMs 40 }
  | .counted, true => { d with pulseTimer := none }
  | _, _ => d

/-- The filter that an input's role gives it, at a change of its level; an unassigned input is not filtered
(R76, R77, R80). -/
def State.filterDetector (s : State) (i : InputNo) : State :=
  match (s.inputRole i).map Prod.snd with
  | some .presence => s.modDetector i fun d => { d with stability := s.inMs 200 }
  | some _ => s.modDetector i (·.pulseChange s)
  | none => s

/-- DETECTOR_INPUT_CHANGE (R77, R80). -/
def execDetectorInputChange (input : InputNo) (active : Bool) (s : State) : Host.Outcome State Fault Refusal :=
  pin s ((s.detector input).level == active) (·.setDetectorLevel input active) (·.filterDetector input)

/-! ### Presence (R77 to R79) -/

/-- What the turn of its presence flag does to a lane's duration and obstructed flag (R78, R79). -/
def Lane.presenceTurns (x : Lane) (on : Bool) (s : State) : Lane :=
  if on then { x with duration := 0, durationTimer := s.inMs 100 }
  else { x with durationTimer := none, obstructed := false }

/-- The stability timer has expired: the filtered state takes the level where it differs, and the lane whose presence
input this is acts on the turn (R77). -/
def State.acceptPresence (s : State) (i : InputNo) : State :=
  let d := s.detector i
  let t := s.modDetector i fun d => { d with stability := none, presence := d.level }
  if d.level == d.presence then t
  else
    match s.inputRole i with
    | some (l, .presence) => (t.modLane l (·.presenceTurns d.level t)).finish
    | _ => t

/-- PRESENCE_FILTER_EXPIRY (R77). -/
def execPresenceFilterExpiry (input : InputNo) (s : State) : Host.Outcome State Fault Refusal :=
  act s fun s => s.expire (s.detector input).stability (·.acceptPresence input)

/-- The duration that obstructs a lane (R79). -/
def State.stallTenths (s : State) : Nat := 10 * s.cfg Entry.stallTime

/-- The duration after its next advance, saturating (R78). -/
def Lane.nextDuration (x : Lane) : Nat := min 65535 (x.duration + 1)

/-- The next advance sets the obstructed flag (R79). -/
def State.stalls (s : State) (l : LaneNo) : Bool :=
  !(s.lane l).obstructed && decide (s.stallTenths ≤ (s.lane l).nextDuration)

/-- An advance of a lane's presence duration, and the obstruction test that is made at it (R78, R79). -/
def State.advancePresence (s : State) (l : LaneNo) : State :=
  (s.modLane l fun x =>
    { x with
      duration := x.nextDuration
      durationTimer := x.durationTimer.map (· + 100)
      obstructed := x.obstructed || s.stalls l }).raiseIf (s.stalls l) .laneObstructed

/-- PRESENCE_DURATION_ADVANCE (R78). -/
def execPresenceDurationAdvance (lane : LaneNo) (s : State) : Host.Outcome State Fault Refusal :=
  act s fun s => s.expire (s.lane lane).durationTimer (·.advancePresence lane)

/-- LANE_OBSTRUCTED: the advance that brings the duration to STALL_TIME times 10 (R79; log entry 3). -/
def execLaneObstructed (lane : LaneNo) (s : State) : Host.Outcome State Fault Refusal :=
  act s fun s => if s.stalls lane then s.expire (s.lane lane).durationTimer (·.advancePresence lane) else s

/-! ### Section counts (R81 to R84) -/

/-- A count fault: FAULT with cause TRAM_COUNT, and LANE_FAULT; a lane in FAULT already, or whose hold is HOLD_DOWN,
is not moved (R82; log entry 38). -/
def State.countFault (s : State) (l : LaneNo) : State :=
  let x := s.lane l
  (if x.state == .fault || x.hold == .holdDown then s else s.laneToFault l .tramCount).raise .laneFault

/-- An entry pulse is a count fault at 7, and in CLOSED and HELD (R81, R83). -/
def Lane.entryFaults (x : Lane) : Bool := x.count == 7 || x.state == .closed || x.state == .held

/-- A tram counted onto the section (R81). -/
def State.countEntry (s : State) (l : LaneNo) : State :=
  let t := s.modLane l fun x => { x with count := min 7 (x.count + 1) }
  if (s.lane l).entryFaults then t.countFault l else t

/-- A tram counted off the section; at 0 it is a count fault (R81). -/
def State.countExit (s : State) (l : LaneNo) : State :=
  let t := s.modLane l fun x => { x with count := x.count - 1 }
  if (s.lane l).count == 0 then t.countFault l else t

/-- A pulse filter enters COUNTED (R80). -/
def State.countPulse (s : State) (i : InputNo) : State :=
  s.modDetector i fun d => { d with pulse := .counted, pulseTimer := none }

/-- The pulse that a TRAM lane's input completes: its filter is in TIMING and its 40 ms run out (R80). -/
def State.pulse (s : State) (l : LaneNo) (i : InputNo) (f : State → State) : State :=
  if (s.lane l).present && (s.lane l).kind == .tram && (s.detector i).pulse == .timing then
    s.expire (s.detector i).pulseTimer fun s => (f (s.countPulse i)).finish
  else s

/-- ENTRY_PULSE (R81). -/
def execEntryPulse (lane : LaneNo) (s : State) : Host.Outcome State Fault Refusal :=
  act s fun s => s.pulse lane (s.lane lane).input1 (·.countEntry lane)

/-- EXIT_PULSE (R81). -/
def execExitPulse (lane : LaneNo) (s : State) : Host.Outcome State Fault Refusal :=
  act s fun s => s.pulse lane (s.lane lane).input2 (·.countExit lane)

/-- A pulse filter returns to WAITING (R80). -/
def State.rearm (s : State) (i : InputNo) : State :=
  s.modDetector i fun d => { d with pulse := .waiting, pulseTimer := none }

/-- PULSE_FILTER_REARM (R80). -/
def execPulseFilterRearm (input : InputNo) (s : State) : Host.Outcome State Fault Refusal :=
  act s fun s =>
    if (s.detector input).pulse == .counted then s.expire (s.detector input).pulseTimer (·.rearm input) else s

end Sys2Proof.Machine
end

