-- ==== Sys2Proof/Machine/Window.lean ====
section
/-! DEFINITION. The Start Window's events (Section 9). -/

namespace Sys2Proof.Machine

/-- START_WINDOW in milliseconds. -/
def State.windowMs (s : State) : Nat := 1000 * s.cfg Entry.startWindow

/-- The age of a grant in milliseconds, modulo 2^32 (R163). -/
def State.grantAge (s : State) (g : Grant) : Nat := (s.uptimeMs - g.stamp).toNat

/-- The grants whose age has reached START_WINDOW leave the list (R163, R169). -/
def State.ageOut (s : State) : State :=
  { s with window := { s.window with grants := s.window.grants.filter fun g => decide (s.grantAge g < s.windowMs) } }

/-- The moment at which the oldest grant's age reaches START_WINDOW. -/
def State.ageOutDue (s : State) : Timer :=
  s.window.grants.head?.map fun g => s.clock.now + (s.windowMs - s.grantAge g)

/-- START_GRANT: a grant is made where one can be, and the others of the act follow it (R164). -/
def execStartGrant (s : State) : Host.Outcome State Fault Refusal :=
  act s fun s => ((grantReaction s).map State.finish).getD s

/-- GRANT_AGE_OUT: the clock reaches the moment at which the oldest grant ages out; every grant so old leaves in the
act, and granting is tested (R163, R164). -/
def execGrantAgeOut (s : State) : Host.Outcome State Fault Refusal :=
  act s fun s => s.expire s.ageOutDue fun s => s.ageOut.finish

end Sys2Proof.Machine
end

