-- ==== Sys2Proof/Machine/SiteTable.lean ====
section
/-! DEFINITION. The Site Table Store's operations (Section 10): ranges, relations, the tests of a change, and what a
change of the working copy does in the act that makes it. -/

namespace Sys2Proof.Machine

/-! ### Entries by kind -/

/-- The lane that an entry describes (R173). -/
def laneOfEntry (e : EntryNo) : Option LaneNo :=
  if h : 18 ≤ e.val ∧ e.val < 30 then some ⟨e.val - 18, by omega⟩ else none

/-- The channel that an entry describes (R174). -/
def channelOfEntry (e : EntryNo) : Option ChannelNo :=
  if h : 36 ≤ e.val ∧ e.val < 84 then some ⟨e.val - 36, by omega⟩ else none

/-- A LEVEL_n entry (R175). -/
def isLevelEntry (e : EntryNo) : Bool := 94 ≤ e.val

/-- The range of a numeric entry, with the ANGLE_FULL in force; none for a lane or channel entry (R172, R177). -/
def entryRange (angleFull : Nat) (e : EntryNo) : Option (Nat × Nat) :=
  if (laneOfEntry e).isSome || (channelOfEntry e).isSome then none
  else if isLevelEntry e then some (0, 3)
  else
    match e.val with
    | 0 | 1 => some (1000, 60000)
    | 2 => some (6000, 8800)
    | 3 => some (1500, angleFull)
    | 4 => some (1, 50)
    | 5 => some (20, 200)
    | 6 => some (50, 800)
    | 7 => some (200, 3000)
    | 8 => some (0, 255)
    | 9 => some (50, 500)
    | 10 => some (100, 1000)
    | 11 | 12 => some (2, 30)
    | 13 => some (500, angleFull)
    | 14 => some (1, 255)
    | 15 => some (50, 250)
    | 16 => some (60, 300)
    | 17 => some (60, 400)
    | 30 => some (3, 10)
    | 31 => some (4, 30)
    | 32 => some (5, 120)
    | 33 => some (4, 30)
    | 34 => some (10, 300)
    | 35 => some (5, 60)
    | 84 => some (40, 90)
    | 85 | 86 => some (1, 8)
    | 87 => some (60, 3600)
    | 88 => some (120, 1800)
    | 89 => some (0, 900)
    | 90 => some (20, 300)
    | 91 => some (5, 60)
    | 92 => some (2, 20)
    | 93 => some (1, 6)
    | _ => none

/-- The value kept of a value written (R177). -/
def keptValue (t : SiteTable) (e : EntryNo) (v : SiteWord) : SiteWord :=
  match entryRange (SiteTable.num t Entry.angleFull) e with
  | some (lo, hi) => BitVec.ofNat 16 (max lo (min v.toNat hi))
  | none => v

/-- A lane or channel entry names values that exist (R176, fourth test). -/
def namesExist (e : EntryNo) (v : SiteWord) : Bool :=
  if (laneOfEntry e).isSome then laneNamesExist v
  else if (channelOfEntry e).isSome then channelNamesExist v
  else true

/-! ### Relations (R178) -/

/-- The words of the present lanes, in number order. -/
def presentWords (t : SiteTable) : List SiteWord :=
  ((List.finRange 12).map fun l => t[Entry.lane l]).filter fun w => (laneKind w).isSome

/-- The inputs that a present lane's word names (R178, 8). -/
def namedInputs (w : SiteWord) : List InputNo :=
  if laneKind w == some .tram then [laneInput1 w, laneInput2 w] else [laneInput1 w]

/-- The assignments of a table's channels. -/
def assignmentsOf (t : SiteTable) : List Assignment :=
  (List.finRange 48).filterMap fun c => channelAssignment t[Entry.channel c]

/-- R178, 1. -/
def relation1 (t : SiteTable) : Bool := decide (SiteTable.num t Entry.skewWarn < SiteTable.num t Entry.skewTrip)

/-- R178, 2. -/
def relation2 (t : SiteTable) : Bool :=
  decide (SiteTable.num t Entry.windDerate < SiteTable.num t Entry.windStart)
    && decide (SiteTable.num t Entry.windStart ≤ SiteTable.num t Entry.windStop)

/-- R178, 3. -/
def relation3 (t : SiteTable) : Bool := decide (SiteTable.num t Entry.callLevel ≤ SiteTable.num t Entry.batchLimit)

/-- R178, 4. -/
def relation4 (t : SiteTable) : Bool :=
  decide (SiteTable.num t Entry.angleMinOpening ≤ SiteTable.num t Entry.angleFull)
    && decide (SiteTable.num t Entry.beamGuardAngle ≤ SiteTable.num t Entry.angleFull)

/-- R178, 5. -/
def relation5 (t : SiteTable) : Bool :=
  (presentWords t).all fun w => laneKind w == some .tram || (laneGroup w).isSome

/-- R178, 6. -/
def relation6 (t : SiteTable) : Bool :=
  (presentWords t).all fun w => (presentWords t).all fun v =>
    (laneGroup w).isNone || laneGroup w != laneGroup v || (laneApproach w == laneApproach v && laneRole w == laneRole v)

/-- R178, 7. -/
def relation7 (t : SiteTable) : Bool :=
  (presentWords t).all fun w => laneKind w != some .tram || laneInput1 w != laneInput2 w

/-- R178, 8: no input is named by two present lanes. -/
def relation8 (t : SiteTable) : Bool :=
  decide ((presentWords t).Pairwise fun v w => ∀ i ∈ namedInputs v, i ∉ namedInputs w)

/-- R178, 9. -/
def relation9 (t : SiteTable) : Bool := decide (assignmentsOf t).Nodup

/-- R178, 10: the heads from 6 are the barrier arm heads (R91). -/
def relation10 (t : SiteTable) : Bool := (assignmentsOf t).all fun a => a.head.val < 6 || !a.standby

/-- The relations of R178, in their order. -/
def relations : List (SiteTable → Bool) :=
  [relation1, relation2, relation3, relation4, relation5, relation6, relation7, relation8, relation9, relation10]

/-- A table satisfies every relation of R178. -/
def consistent (t : SiteTable) : Bool := relations.all fun r => r t

/-! ### The check of the stored copy (R172) -/

/-- The check over a table's values. -/
def tableCheck (t : SiteTable) : BitVec 16 := crc (t.toList.flatMap bytesOf16)

/-- The stored copy's check agrees with its values. -/
def SiteStore.agrees (x : SiteStore) : Bool := tableCheck x.stored == x.storedCheck

/-! ### The tests of a change (R176, R185) -/

/-- The lanes whose entries two tables hold different. -/
def changedLanes (old new : SiteTable) : List LaneNo :=
  (List.finRange 12).filter fun l => old[Entry.lane l] != new[Entry.lane l]

/-- A lane whose entry would change has its hold at HOLD_DOWN (R176, third test). -/
def State.heldDownBars (s : State) (new : SiteTable) : Bool :=
  (changedLanes s.site.working new).any fun l => (s.lane l).hold == .holdDown

/-- A lane whose entry would change has a hold, or a present lane of a group that it names before or after has one
(R176, fifth test). -/
def State.holdBars (s : State) (new : SiteTable) : Bool :=
  (changedLanes s.site.working new).any fun l =>
    let groups := [laneGroupRead s.site.working[Entry.lane l], laneGroupRead new[Entry.lane l]]
    (s.lane l).hold != .free
      || s.presentLanes.any fun m => (s.lane m).hold != .free && (s.lane m).group.isSome && groups.contains (s.lane m).group

/-- A table brings into use a group that is not UP or DOWN (R176). -/
def State.useBars (s : State) (new : SiteTable) : Bool :=
  (List.finRange 8).any fun g =>
    !s.inUse g && (presentWords new).any (fun w => laneGroup w == some g)
      && !((s.group g).state == .up || (s.group g).state == .down)

/-- A table's START_LIMIT is below the number of grants in the list (R169). -/
def State.limitBars (s : State) (new : SiteTable) : Bool :=
  decide (SiteTable.num new Entry.startLimit < s.window.grants.length)

/-! ### What a change does (R179) -/

/-- The inputs that a lane's word names, none for a lane that is not present (R76). -/
def inputsRead (w : SiteWord) : List InputNo := if (laneKind w).isSome then namedInputs w else []

/-- A change of a lane's entry that R76 names: of its presence, its kind or the inputs it names. -/
def inputsChange (old new : SiteWord) : Bool := laneKind old != laneKind new || inputsRead old != inputsRead new

/-- A changed lane set afresh from its group's switches: hold NONE, timer stopped (R75, R179). Where its presence, kind
or inputs change its count is 0 and its presence figures begin again. Elsewhere both stay as they were: R88, the rule of
the block that owns the section counts (00_scope 3.1), excepts this case from the count 0 of R75 and R179 (DEDUCED, log
entry 20). -/
def State.freshLane (s : State) (l : LaneNo) (old new : SiteWord) : State :=
  s.modLane l fun x =>
    let y := (x.withEntry new).followGroup ((laneGroupRead new).map fun g => (s.group g).state)
    let z := { y with hold := .free }
    if inputsChange old new then { z with count := 0, duration := 0, durationTimer := none, obstructed := false }
    else z

/-- Every changed lane set afresh. -/
def State.freshLanes (s : State) (old new : SiteTable) : State :=
  (changedLanes old new).foldl (fun s l => s.freshLane l old[Entry.lane l] new[Entry.lane l]) s

/-- The inputs to restart: those that a lane whose inputs change named before or names after (R76, R88). -/
def restartedInputs (old new : SiteTable) : List InputNo :=
  (changedLanes old new).flatMap fun l =>
    let v := old[Entry.lane l]
    let w := new[Entry.lane l]
    if inputsChange v w then inputsRead v ++ inputsRead w else []

/-- Every changed channel brought to a fresh state (R112), in channel number order where one load changes several
(R185; log entry 49). -/
def State.freshChannels (s : State) (old new : SiteTable) : State :=
  (List.finRange 48).foldl
    (fun s c =>
      if old[Entry.channel c] != new[Entry.channel c] then s.freshChannel c (channelAssignment new[Entry.channel c])
      else s) s

/-- The required angles brought into the range in force where it has changed (R8). -/
def State.reclampFor (s : State) (old new : SiteTable) : State :=
  if old[Entry.angleFull] != new[Entry.angleFull] || old[Entry.angleMinOpening] != new[Entry.angleMinOpening] then
    s.reclampAngles
  else s

/-- The working copy becomes a table, and every block acts on the entries changed (R179). -/
def State.changeTable (s : State) (new : SiteTable) : State :=
  let old := s.site.working
  let t := ({ s with site := { s.site with working := new } }).reclampFor old new
  let u := (restartedInputs old new).foldl State.restartDetector (t.freshLanes old new)
  let v := (u.freshChannels old new).raiseDark s.lamps
  let w := if old[Entry.startWindow] != new[Entry.startWindow] then v.ageOut else v
  if old[Entry.windStart] != new[Entry.windStart] then w.testWindHigh else w

end Sys2Proof.Machine
end

