-- ==== Sys2Proof/Machine/Records.lean ====
section
/-! DEFINITION. The response bodies of the READ commands, byte by byte (R205). A layout's byte position follows from
the order of the fields. -/

namespace Sys2Proof.Machine

/-- A byte of named bits, bit 0 first. -/
def flagsByte (flags : List Bool) : Byte := byteOf (bits flags)

/-- The site status byte (R181, R205). -/
def State.siteStatus (s : State) : Byte :=
  flagsByte
    [s.site.invalid, s.site.unstored, s.site.store.isSome, s.site.lastResult.isSome, s.site.lastResult == some .failed,
      s.site.key]

/-- The number of the opening in progress, or the last number (R49, R197). -/
def State.openingNumber (s : State) : Nat := (s.book.opening.map (·.number)).getD s.book.lastNumber

/-- Status record, 14 bytes (R197). -/
def State.statusRecord (s : State) : List Byte :=
  [byteOf (openingCode s.openingState)] ++ two s.openingNumber
    ++ [byteOf s.motion.pair.state.code,
        flagsByte [s.road.closureDemand, s.roadSecured, s.wind.valid, s.motion.estop, s.attnLine]]
    ++ two s.wind.reading ++ [s.siteStatus] ++ four s.clock.uptime.toNat ++ [byteOf s.link.floor, byteOf s.slotsInUse]

/-- Passage record, 29 bytes (R19). -/
def Passage.record (p : Passage) : List Byte :=
  bytesOf16 p.tag ++ [byteOf p.slot.val, byteOf p.direction.code, byteOf p.cls.code] ++ two p.angle ++ two p.allowance
    ++ [byteOf p.status.code,
        flagsByte [p.isReady, p.autoRetire, p.overdue, false, p.readySince.isSome, p.openingNumber.isSome,
          p.proceedAt.isSome, p.clearedAt.isSome]]
    ++ four p.bookedAt.toNat ++ optFour (p.readySince.map (·.toNat)) ++ optTwo p.openingNumber
    ++ optFour (p.proceedAt.map (·.toNat)) ++ optFour (p.clearedAt.map (·.toNat))

/-- The status byte of a tag's passage. -/
def State.statusByte (s : State) (t : Tag) : Byte := optByte ((s.statusOf t).map (·.code))

/-- A tag and its passage's status. -/
def State.tagAndStatus (s : State) (t : Tag) : List Byte := bytesOf16 t ++ [s.statusByte t]

/-- The two lists of LIST PASSAGES, each after its count (R20). -/
def State.passageLists (s : State) : List Byte :=
  byteOf s.book.waiting.length :: s.book.waiting.flatMap s.tagAndStatus
    ++ byteOf s.book.clearedOrder.length :: s.book.clearedOrder.flatMap bytesOf16

/-- The flags byte of the opening record (R205). -/
def State.openingFlags (s : State) : Byte :=
  flagsByte
    [s.book.opening.any (·.lastCall), s.book.opening.any (·.forced), s.raiseDemand, s.lowerDemand, s.beam.filtered]

/-- Bytes 3 to 19 of the opening record. In IDLE they carry no values but the demands and the beam of byte 6 (R49,
R205), and are sent as absent: FFh for one byte, 0 for two or four, and FFFFh, as for a stopped timer, for the two
timers of bytes 14-15 and 18-19 (DESIGN CHOICE, log entry 22). -/
def State.openingFields (s : State) : List Byte :=
  match s.book.opening with
  | some o =>
    [byteOf o.batch] ++ two o.target
      ++ [s.openingFlags, flagsByte [o.joinDeadline.isSome, o.beamPassage.isSome]]
      ++ optFour (o.joinDeadline.map (·.toNat)) ++ [optByte (o.serving.map (·.code)), optByte (o.previous.map (·.code))]
      ++ timerSeconds s o.directionTimer ++ optTwo (o.beamPassage.map (·.toNat)) ++ timerSeconds s o.confirmTimer
  | none =>
    [optByte none] ++ optTwo none ++ [s.openingFlags, 0] ++ optFour none ++ [optByte none, optByte none]
      ++ timerSeconds s none ++ optTwo none ++ timerSeconds s none

/-- The road-interval timer in seconds, 0 when stopped (R41). -/
def State.roadIntervalSeconds (s : State) : List Byte :=
  two ((s.book.roadTimer.map fun due => s.untilMs due / 1000).getD 0)

/-- Opening record, 23 bytes and 3 per member (R49). -/
def State.openingRecord (s : State) : List Byte :=
  [byteOf (openingCode s.openingState)] ++ two s.openingNumber ++ s.openingFields ++ s.roadIntervalSeconds
    ++ [byteOf s.members.length] ++ s.members.flatMap s.tagAndStatus

/-- The deck clearing timer in seconds, FFFFh stopped and FFFEh expired (R196). -/
def State.deckField (s : State) : List Byte :=
  match s.road.deck with
  | .stopped => two 0xFFFF
  | .running due => two (s.untilMs due / 1000)
  | .expired => two 0xFFFE

/-- Bytes 13 to 21 of the lane record: the lane's group, FFh and FFFFh without one (R205). -/
def groupFields (s : State) : Option Group → List Byte
  | some x =>
    [byteOf x.state.code, byteOf x.state.driveCode, flagsByte [x.downSwitch, x.upSwitch, x.obstruction],
      optByte (x.heldStroke.map (·.code)), optByte (x.cause.map (·.code))]
      ++ timerMs s x.strokeTimer ++ timerMs s x.clearTimer
  | none => List.replicate 9 0xFF

/-- Bytes 22 to 24 of the lane record: the closure demand, road secured and the deck clearing timer. -/
def State.roadFields (s : State) : List Byte := flagsByte [s.road.closureDemand, s.roadSecured] :: s.deckField

/-- Bytes 3 to 12 of a present lane's record (R74, R89). -/
def State.laneFields (s : State) (l : LaneNo) : List Byte :=
  let x := s.lane l
  let detected := x.kind != .tram
  [byteOf x.state.code, optByte (x.subPhase.map (·.code)), byteOf x.hold.code, optByte (x.cause.map (·.code)),
    flagsByte [detected && s.presence l, detected && x.obstructed, x.keptClosed, detected]]
    ++ optTwo (if detected then some x.duration else none)
    ++ [optByte (if detected then none else some x.count)]
    ++ timerMs s x.timer

/-- Lane record, 25 bytes (R74). A lane not present carries 0 in bytes 1 and 2 and no further values (R205): FFh for
one byte, 0 for the duration and the flags, FFFFh, as for a stopped timer, for every timer, and the bytes of a lane
without a group (DESIGN CHOICE, log entry 22). -/
def State.laneRecord (s : State) (l : LaneNo) : List Byte :=
  let x := s.lane l
  if x.present then
    [byteOf l.val] ++ bytesOf16 s.site.working[Entry.lane l] ++ s.laneFields l
      ++ groupFields s (x.group.map s.group) ++ s.roadFields
  else
    [byteOf l.val, 0, 0] ++ [0xFF, 0xFF, 0xFF, 0xFF, 0] ++ optTwo none ++ [0xFF] ++ timerMs s none
      ++ groupFields s none ++ [0] ++ two 0xFFFF

/-- Which string of an element is driven LIT: 0 none, 1 main, 2 standby (R205). -/
def State.litString (s : State) (h : HeadNo) (e : Nat) : Nat :=
  let lit (standby : Bool) : Bool := (s.lamps.channelOf h e standby).any fun c => (s.channel c).drive == .lit
  if lit false then 1 else if lit true then 2 else 0

/-- The four bytes of an element of the head record. -/
def State.elementFields (s : State) (h : HeadNo) (e : Nat) : List Byte :=
  [byteOf ((s.lamps.wantedLit h e).toNat + 2 * (s.lamps.elementStatus h e).code),
    optByte ((s.lamps.channelOf h e false).map (·.val)), optByte ((s.lamps.channelOf h e true).map (·.val)),
    byteOf (s.litString h e)]

/-- Head record, 3 bytes and 4 per element (R110). -/
def State.headRecord (s : State) (h : HeadNo) : List Byte :=
  [byteOf h.val, byteOf s.lamps.aspects[h].code, flagsByte [s.lamps.headFaulted h, s.lamps.phaseB]]
    ++ (List.range (elementCount h)).flatMap (s.elementFields h)

/-- A channel's standing with respect to proving: 0 neither, 1 under test, 2 listed; and its list position from 1
(R111). -/
def State.provingStanding (s : State) (c : ChannelNo) : List Byte :=
  if s.lamps.underTest == some c then [1, optByte none]
  else
    match s.lamps.proving.findIdx? (· == c) with
    | some i => [2, byteOf (i + 1)]
    | none => [0, optByte none]

/-- Channel record, 15 bytes (R111). The kind of the first failure is its position in R106's list (R196). -/
def State.channelRecord (s : State) (c : ChannelNo) : List Byte :=
  let x := s.channel c
  let f := s.lamps.firstFailure
  [byteOf c.val] ++ bytesOf16 s.site.working[Entry.channel c]
    ++ [byteOf x.state.code, byteOf x.drive.code, flagsByte [x.sense, f.isSome], byteOf x.failures]
    ++ s.provingStanding c
    ++ [optByte (f.map (·.channel.val)), optByte (f.map (·.stuck.toNat))]
    ++ optFour (f.map (·.time.toNat))

/-- A leaf's flags byte (R205). The count-valid flag is the one in force, as the switches are (log entry 50). -/
def State.leafFlags (s : State) (i : Side) : Byte :=
  let x := s.leaf i
  flagsByte [x.countValid, x.seat, x.fullOpen, x.direction == .lower, s.driveEnable]

/-- The seven bytes of a lock (R205). -/
def State.lockFields (s : State) (k : LockId) : List Byte :=
  let x := s.lock k
  [byteOf x.state.code, optByte (x.stroke.map (·.code)), byteOf (s.requestView (lockRequester k) x.held).code,
    byteOf (outputCode x.output), flagsByte [x.drivenSwitch, x.withdrawnSwitch]] ++ timerMs s x.timer

/-- The five bytes of a pump (R205). -/
def State.pumpFields (s : State) (i : Side) : List Byte :=
  let x := s.pump i
  [byteOf x.state.code, byteOf (s.requestView (pumpRequester i) x.held).code, flagsByte [x.runningInput]]
    ++ timerMs s x.timer

/-- Bytes 0 to 8 of the leaf snapshot: the pair record. The recovery step is reported only while RECOVERING (R117;
log entry 35). -/
def State.pairFields (s : State) : List Byte :=
  let p := s.motion.pair
  [byteOf p.state.code] ++ optTwo p.target ++ [optByte (p.interrupted.map (·.code)), byteOf p.halts.code]
    ++ timerSeconds s p.channelTimer
    ++ [optByte (p.cause.map (·.code)), optByte (if p.state == .recovering then p.step.map (·.code) else none)]

/-- Bytes 11 to 45 of the leaf snapshot: the figures of the last motion period (R150). -/
def Motion.periodFields (m : Motion) : List Byte :=
  let r := m.period
  four r.number.toNat ++ two r.countN ++ two r.countS ++ optFour r.angleN ++ optFour r.angleS ++ optFour r.skew
    ++ [optByte (r.lead.map (·.code))]
    ++ optTwo (r.limits.map (·.dist)) ++ optTwo (r.limits.map (·.wind)) ++ optTwo (r.limits.map (·.limit))
    ++ two r.pairDemand ++ two r.correction ++ two m.leafN.demand ++ two m.leafS.demand

/-- Leaf snapshot, 81 bytes (R135). -/
def State.leafSnapshot (s : State) : List Byte :=
  let p := s.motion.pair
  let r := s.motion.period
  s.pairFields
    ++ [flagsByte [p.target.isSome, r.angleN.isSome, r.angleS.isSome, r.skew.isSome, r.limits.isSome],
        flagsByte [p.skewWarning, s.motion.estop, s.wind.valid]]
    ++ s.motion.periodFields
    ++ [s.leafFlags .n, s.leafFlags .s]
    ++ allLocks.flatMap s.lockFields ++ bothSides.flatMap s.pumpFields ++ two s.wind.reading

/-- Start window record (R170). -/
def State.windowRecord (s : State) : List Byte :=
  four s.uptimeMs.toNat ++ [byteOf (s.cfg Entry.startLimit), byteOf (s.cfg Entry.startWindow)]
    ++ byteOf s.window.queue.length :: s.window.queue.flatMap (fun r => [byteOf r.val, byteOf (isLift r).toNat])
    ++ byteOf s.window.grants.length
      :: s.window.grants.flatMap fun g => four g.stamp.toNat ++ [byteOf g.requester.val]

/-- Entry record, 10 bytes; lane and channel entries carry 0 for both bounds (R180). -/
def State.entryRecord (s : State) (e : EntryNo) : List Byte :=
  let range := (entryRange (s.cfg Entry.angleFull) e).getD (0, 0)
  [byteOf e.val] ++ bytesOf16 s.site.working[e] ++ two range.1 ++ two range.2
    ++ bytesOf16 SiteTable.factoryReset[e] ++ [s.siteStatus]

/-- A factor set as two bytes. -/
def factorSet (fs : List (Fin 16)) : BitVec 16 := fs.foldl (fun w f => w ||| 1#16 <<< f.val) 0

/-- The body of READ ATTENTION: pending, signalled, floor, ATTN (R201). -/
def State.attentionRecord (s : State) : List Byte :=
  bytesOf16 s.link.factors ++ bytesOf16 (factorSet s.signalled) ++ [byteOf s.link.floor, byteOf s.attnLine.toNat]

end Sys2Proof.Machine
end

