-- ==== Sys2Proof/Machine/ReadCommands.lean ====
section
/-! DEFINITION. The READ commands: each changes no state but the response buffer, which takes its record. -/

namespace Sys2Proof.Machine

/-- A READ command taken: its body goes to the response buffer. -/
def State.answer (s : State) (body : List Byte) : State := s.respond .accepted body

/-- READ_STATUS (R197). -/
def execReadStatus (s : State) : Host.Outcome State Fault Refusal := act s fun s => s.answer s.statusRecord

/-- READ_PASSAGE (R19). -/
def execReadPassage (tag : Tag) (s : State) : Host.Outcome State Fault Refusal :=
  act s fun s =>
    match s.passage tag with
    | none => s.refuse .noSuchRecord
    | some p => s.answer p.record

/-- LIST_PASSAGES (R20). -/
def execListPassages (s : State) : Host.Outcome State Fault Refusal := act s fun s => s.answer s.passageLists

/-- READ_OPENING (R49). -/
def execReadOpening (s : State) : Host.Outcome State Fault Refusal := act s fun s => s.answer s.openingRecord

/-- READ_LANE (R74). -/
def execReadLane (lane : Byte) (s : State) : Host.Outcome State Fault Refusal :=
  act s fun s =>
    match finOf 12 lane with
    | none => s.refuse .noSuchRecord
    | some l => s.answer (s.laneRecord l)

/-- READ_HEAD (R110). -/
def execReadHead (head : Byte) (s : State) : Host.Outcome State Fault Refusal :=
  act s fun s =>
    match finOf 14 head with
    | none => s.refuse .noSuchRecord
    | some h => s.answer (s.headRecord h)

/-- READ_CHANNEL (R111). -/
def execReadChannel (channel : Byte) (s : State) : Host.Outcome State Fault Refusal :=
  act s fun s =>
    match finOf 48 channel with
    | none => s.refuse .noSuchRecord
    | some c => s.answer (s.channelRecord c)

/-- READ_LEAVES (R135). -/
def execReadLeaves (s : State) : Host.Outcome State Fault Refusal := act s fun s => s.answer s.leafSnapshot

/-- READ_START_WINDOW (R170). -/
def execReadStartWindow (s : State) : Host.Outcome State Fault Refusal := act s fun s => s.answer s.windowRecord

/-- READ_SITE_ENTRY (R180). -/
def execReadSiteEntry (entry : Byte) (s : State) : Host.Outcome State Fault Refusal :=
  act s fun s =>
    match finOf 110 entry with
    | none => s.refuse .unknownEntry
    | some e => s.answer (s.entryRecord e)

/-- READ_ATTENTION (R201). -/
def execReadAttention (s : State) : Host.Outcome State Fault Refusal := act s fun s => s.answer s.attentionRecord

end Sys2Proof.Machine
end

