-- ==== Sys2Proof/Machine/SiteCommands.lean ====
section
/-! DEFINITION. The Site Table Store's commands and events (Section 10). -/

namespace Sys2Proof.Machine

/-! ### WRITE SITE ENTRY (R176) -/

/-- The working copy with a value kept in an entry. -/
def State.written (s : State) (e : EntryNo) (v : SiteWord) : SiteTable :=
  s.site.working.set e.val (keptValue s.site.working e v) e.isLt

/-- The tests of WRITE SITE ENTRY after the first, in their order; none where the write is taken (R176). -/
def State.writeRefused (s : State) (e : EntryNo) (v : SiteWord) : Option Result :=
  let new := s.written e v
  if !isLevelEntry e && !s.atRest then some .busy
  else if s.heldDownBars new then some .heldDown
  else if !namesExist e v then some .notPermitted
  else if s.holdBars new then some .notPermitted
  else if !consistent new then some .inconsistent
  else if s.useBars new || (e == Entry.startLimit && s.limitBars new) then some .busy
  else none

/-- A write during a store that changes the working copy marks the store (R182, R184). -/
def StoreJob.mark (j : StoreJob) (changed : Bool) : StoreJob := { j with dirty := j.dirty || changed }

/-- A write taken: the value kept is placed and every block acts on the change (R179); a value that changes the entry
sets the unstored flag (R182). -/
def State.writeEntry (s : State) (e : EntryNo) (v : SiteWord) : State :=
  let changed := s.site.working[e] != keptValue s.site.working e v
  let t := s.changeTable (s.written e v)
  { t with site := { t.site with
    unstored := t.site.unstored || changed
    store := t.site.store.map (·.mark changed) } }

/-- The response of a write taken: the entry number and the value kept (R195). -/
def writeBody (e : EntryNo) (kept : SiteWord) : List Byte := byteOf e.val :: bytesOf16 kept

/-- WRITE SITE ENTRY, of an entry that exists (R176). -/
def State.writeSite (s : State) (e : EntryNo) (v : SiteWord) : State :=
  match s.writeRefused e v with
  | some r => s.refuse r
  | none =>
    let kept := keptValue s.site.working e v
    (s.writeEntry e v).finish.respond (if kept = v then .accepted else .acceptedClamped) (writeBody e kept)

/-- WRITE_SITE_ENTRY (R176). -/
def execWriteSiteEntry (entry : Byte) (value : SiteWord) (s : State) : Host.Outcome State Fault Refusal :=
  act s fun s =>
    match finOf 110 entry with
    | none => s.refuse .unknownEntry
    | some e => s.writeSite e value

/-! ### STORE SITE TABLE (R183, R184) -/

/-- The tests of STORE SITE TABLE (R183); a store in progress puts the bridge out of rest (R176). -/
def State.storeRefused (s : State) : Option Result :=
  if !s.site.key then some .keyOff else if !s.atRest then some .busy else none

/-- A store begins: the copy is taken, and 200 ms run to its completion (R183). -/
def State.beginStore (s : State) : State :=
  { s with site := { s.site with
    store := some { copy := s.site.working, dirty := false, due := s.clock.now + 200 } } }

/-- STORE_SITE_TABLE (R183). -/
def execStoreSiteTable (s : State) : Host.Outcome State Fault Refusal :=
  act s fun s =>
    match s.storeRefused with
    | some r => s.refuse r
    | none => s.beginStore.accept

/-- The stored copy as a store that did not read back, or that a reset cut off, leaves it: free values, whose check does
not agree (R184; log entry 8). -/
def State.spoilStored (s : State) : State :=
  let image := Config.nvmImage s.nvmSerial
  { s with
    site := { s.site with
      stored := image
      storedCheck := tableCheck image ^^^ (Config.nvmCheckError s.nvmSerial ||| 1)
      store := none }
    nvmSerial := s.nvmSerial + 1 }

/-- The stored copy as a store that read back leaves it (R184). -/
def State.keepStored (s : State) (j : StoreJob) : State :=
  { s with site := { s.site with
    stored := j.copy
    storedCheck := tableCheck j.copy
    store := none
    lastResult := some .good
    unstored := s.site.unstored && j.dirty
    invalid := false } }

/-- The completion of a store (R184, R187). -/
def State.completeStore (s : State) (j : StoreJob) (readsBack : Bool) : State :=
  let t :=
    if readsBack then s.keepStored j
    else
      let u := s.spoilStored
      { u with site := { u.site with lastResult := some .failed } }
  (t.raise .storeDone).finish

/-- STORE_COMPLETION (R184): the store's 200 ms run out, and the stored copy reads back or does not (log entry 9). -/
def execStoreCompletion (readsBack : Bool) (s : State) : Host.Outcome State Fault Refusal :=
  act s fun s =>
    match s.site.store with
    | some j => (s.reach j.due).completeStore j readsBack
    | none => s

/-! ### LOAD SITE TABLE (R185) -/

/-- The tests of LOAD SITE TABLE, in their order (R185). -/
def State.loadRefused (s : State) : Option Result :=
  let new := s.site.stored
  if !s.atRest then some .busy
  else if !s.site.agrees then some .notPermitted
  else if s.limitBars new then some .busy
  else if s.heldDownBars new then some .heldDown
  else if s.holdBars new then some .notPermitted
  else if s.useBars new then some .busy
  else none

/-- A load taken (R185). -/
def State.loadTable (s : State) : State :=
  let t := s.changeTable s.site.stored
  { t with site := { t.site with unstored := false } }

/-- LOAD_SITE_TABLE (R185). -/
def execLoadSiteTable (s : State) : Host.Outcome State Fault Refusal :=
  act s fun s =>
    match s.loadRefused with
    | some r => s.refuse r
    | none => s.loadTable.finish.accept

/-! ### The key switch (R181) -/

/-- The key switch's level as read. -/
def State.setKeyRaw (s : State) (on : Bool) : State := { s with site := { s.site with keyRaw := on } }

/-- The 100 ms of the key switch filter begin anew at a raw change (R181; log entry 33). -/
def State.timeKey (s : State) : State :=
  { s with site := { s.site with keyTimer := if s.site.keyRaw == s.site.key then none else s.inMs 100 } }

/-- KEY_SWITCH_INPUT_CHANGE (R181). -/
def execKeySwitchInputChange (on : Bool) (s : State) : Host.Outcome State Fault Refusal :=
  pin s (s.site.keyRaw == on) (·.setKeyRaw on) State.timeKey

/-- KEY_SWITCH_FILTER_EXPIRY (R181). -/
def execKeySwitchFilterExpiry (s : State) : Host.Outcome State Fault Refusal :=
  act s fun s => s.expire s.site.keyTimer fun s => { s with site := { s.site with key := s.site.keyRaw, keyTimer := none } }

end Sys2Proof.Machine
end

