-- ==== Sys2Proof/Machine/Reset.lean ====
section
/-! DEFINITION. Reset (00_scope 5.5): what each block finds right after one, from the stored copy and the raw inputs,
the factors that it raises (R204), and the loss of power (R184, R188). -/

namespace Sys2Proof.Machine

/-! ### The site table (R186) -/

/-- The site table and its status right after a reset; a store in progress has left its copy partly written (R184,
R186). -/
def State.foundSite (s : State) : State :=
  let t := if s.site.store.isSome then s.spoilStored else s
  let ok := t.site.agrees
  { t with site := { t.site with
    working := if ok then t.site.stored else SiteTable.factoryReset
    invalid := !ok
    unstored := !ok
    store := none
    lastResult := none
    key := t.site.keyRaw
    keyTimer := none } }

/-! ### Lanes, groups and detectors (R75, R87) -/

/-- Every group reads its end switches (R75). -/
def foundGroups (v : Vector Group 8) : Vector Group 8 := mapTable Group.found v

/-- A lane right after a reset: its site fields, and the state that its group gives it (R75). -/
def foundLane (t : SiteTable) (groups : Vector Group 8) (l : LaneNo) : Lane :=
  let w := t[Entry.lane l]
  (Lane.absent.withEntry w).followGroup ((laneGroupRead w).map fun g => groups[g].state)

/-- The road right after a reset (R75). -/
def foundRoad (t : SiteTable) (road : Road) : Road where
  lanes := table 12 (foundLane t (foundGroups road.groups))
  groups := foundGroups road.groups
  deck := .stopped
  closureDemand := false

/-- Some present lane is found with its group in FAULT (R75). -/
def Road.foundFault (x : Road) : Bool := x.lanes.toList.any fun l => l.present && l.state == .fault

/-! ### Lamps (R113, R102) -/

/-- A channel right after a reset (R113); its sense input stays as read. -/
def foundChannel (t : SiteTable) (old : Vector Channel 48) (c : ChannelNo) : Channel :=
  { Channel.atReset with assignment := channelAssignment t[Entry.channel c], sense := old[c].sense }

/-- The lamp unit right after a reset, before the aspects are asked for, with every assigned channel on the proving
list (R102, R113). -/
def State.foundLamps (s : State) : Lamps where
  channels := table 48 (foundChannel s.site.working s.lamps.channels)
  aspects := Vector.replicate 14 .dark
  phaseB := false
  flashTimer := some s.halfPeriod
  proving := (List.finRange 48).filter fun c => (channelAssignment s.site.working[Entry.channel c]).isSome
  underTest := none
  testTimer := none
  periodicTimer := some 60000
  firstFailure := none

/-! ### Leaves, locks, pumps and the pair (R136, R137, R132) -/

/-- A lock right after a reset, read from its end switches (R136). -/
def Lock.found (k : Lock) : Lock where
  state :=
    if k.drivenSwitch && !k.withdrawnSwitch then .driven
    else if k.withdrawnSwitch && !k.drivenSwitch then .withdrawn
    else .fault
  stroke := none
  held := false
  drivenSwitch := k.drivenSwitch
  withdrawnSwitch := k.withdrawnSwitch
  timer := none

/-- A leaf right after a reset: its count is 0, and valid where the leaf is seated (R136). -/
def Leaf.found (x : Leaf) : Leaf where
  count := 0
  countValid := x.seat
  seat := x.seat
  fullOpen := x.fullOpen
  direction := .raise
  demand := 0

/-- Both seat switches are on and all three locks are DRIVEN (R136). -/
def Motion.foundLocked (m : Motion) : Bool :=
  m.leafN.seat && m.leafS.seat && [m.bolt, m.tailN, m.tailS].all fun k => k.found.state == .driven

/-- The period record right after a reset (R137). -/
def foundPeriod (validN validS : Bool) : Period :=
  { Period.atReset with
    angleN := if validN then some 0 else none
    angleS := if validS then some 0 else none
    skew := if validN && validS then some 0 else none }

/-- The motion controller right after a reset (R132, R136, R137). -/
def Motion.found (m : Motion) : Motion where
  pair :=
    if m.foundLocked then Pair.foundLocked
    else { Pair.foundLocked with state := .fault, cause := some .positionUnknown }
  leafN := m.leafN.found
  leafS := m.leafS.found
  bolt := m.bolt.found
  tailN := m.tailN.found
  tailS := m.tailS.found
  pumpN := { Pump.atReset with runningInput := m.pumpN.runningInput }
  pumpS := { Pump.atReset with runningInput := m.pumpS.runningInput }
  estopRaw := m.estopRaw
  estop := m.estopRaw
  estopTimer := none
  period := foundPeriod m.leafN.seat m.leafS.seat
  rampBase := 0
  periodTimer := some 20

/-! ### The whole part -/

/-- The response of NO OPERATION with the result ACCEPTED (R193). -/
def resetResponse : List Byte := [0x00, 0x00, 0x1D, 0x0F]

/-- What every block finds right after a reset, before it acts on it (R21, R50, R75, R87, R113, R136, R137, R160, R171,
R186, R193, R204). The commands that wait stay in the queue, and the pins show what they show. -/
def State.foundBlocks (s : State) : State where
  pending := s.pending
  alive := true
  clock := { now := 0, uptime := 0, uptimeDue := 1000 }
  link := { response := resetResponse, sent := s.link.sent, factors := 0, floor := 0 }
  site := s.site
  book :=
    { slots := Vector.replicate 16 none, waiting := [], clearedOrder := [], lastNumber := 0, opening := none
      roadTimer := none }
  beam := { raw := s.beam.raw, filtered := false, timer := if s.beam.raw then some 500 else none }
  road := foundRoad s.site.working s.road
  detectors := s.detectors
  lamps := s.foundLamps
  motion := s.motion.found
  wind :=
    { raw := s.wind.raw, filter := .counted, pulseTimer := none, counter := 0, gateTimer := some 3000, gates := []
      high := false }
  window := { queue := [], grants := [], asked := [] }
  nvmSerial := s.nvmSerial

/-- Every detector input brought to its state after a reset (R87). -/
def State.foundDetectors (s : State) : State := (List.finRange 16).foldl State.restartDetector s

/-- The factors that the blocks raise at a reset (R204). -/
def State.raiseAtReset (s : State) : State :=
  (((s.raiseIf s.site.invalid .siteInvalid).raiseIf s.road.foundFault .laneFault).raiseIf
    (s.motion.pair.state == .fault) .motionFault).raiseIf s.motion.estop .eStop

/-- What the part finds right after a reset. -/
def State.found (s : State) : State := s.foundSite.foundBlocks.foundDetectors.raiseAtReset

/-- A reset: the blocks take what they find, and act on it as on any event (R75, R113, R171). -/
def State.resetPart (s : State) : State := s.found.finish

/-- Power lost: a store in progress ends (R184), nothing that the part held survives but the stored copy, and every
output is off (R188; log entry 12). -/
def State.losePower (s : State) : State := { s.found with alive := false }

end Sys2Proof.Machine
end

