-- ==== Sys2Proof/Machine/LinkCommands.lean ====
section
/-! DEFINITION. The Command Link (Section 11): transactions, the commands of the link itself, and the power and reset
pins. -/

namespace Sys2Proof.Machine

/-! ### Power and reset (R184, R188) -/

/-- POWER_ON (R188, R204): power becomes good, and the part resets. -/
def execPowerOn (s : State) : Host.Outcome State Fault Refusal := .next s.resetPart

/-- RESETN (R188); without power nothing resets (log entry 13). -/
def execResetN (s : State) : Host.Outcome State Fault Refusal := act s State.resetPart

/-- POWER_FAILURE (R184, R188). -/
def execPowerFailure (s : State) : Host.Outcome State Fault Refusal := act s State.losePower

/-! ### The link's own commands (R195, R198) -/

/-- NO_OPERATION (R195). -/
def execNoOperation (s : State) : Host.Outcome State Fault Refusal := act s State.accept

/-- RESTART (R198): the reset response replaces the command's own (R193). -/
def execRestart (s : State) : Host.Outcome State Fault Refusal :=
  act s fun s => if s.atRest then s.resetPart else s.refuse .busy

/-! ### Transactions (R189 to R194) -/

/-- The meaning of a command that a good frame carries; the rows that no frame carries do nothing here. -/
def runLinkCommand (i : Instr) (s : State) : Host.Outcome State Fault Refusal :=
  match i with
  | .noOperation => execNoOperation s
  | .readStatus => execReadStatus s
  | .restart => execRestart s
  | .bookPassage t d c a r w q => execBookPassage t d c a r w q s
  | .amendPassage t m d c a r w q => execAmendPassage t m d c a r w q s
  | .markPassing t => execMarkPassing t s
  | .markCleared t => execMarkCleared t s
  | .retirePassage t => execRetirePassage t s
  | .readPassage t => execReadPassage t s
  | .listPassages => execListPassages s
  | .callOpening => execCallOpening s
  | .declareLastCall => execDeclareLastCall s
  | .abortOpening => execAbortOpening s
  | .readOpening => execReadOpening s
  | .readLane l => execReadLane l s
  | .holdLane l o => execHoldLane l o s
  | .releaseHold l => execReleaseHold l s
  | .releaseRoad => execReleaseRoad s
  | .clearLaneFault l => execClearLaneFault l s
  | .ackTramCount l => execAckTramCount l s
  | .readHead h => execReadHead h s
  | .readChannel c => execReadChannel c s
  | .proveHead h => execProveHead h s
  | .clearLampFailure c => execClearLampFailure c s
  | .clearLampCounts => execClearLampCounts s
  | .readLeaves => execReadLeaves s
  | .resume => execResume s
  | .recover => execRecover s
  | .readStartWindow => execReadStartWindow s
  | .readSiteEntry e => execReadSiteEntry e s
  | .writeSiteEntry e v => execWriteSiteEntry e v s
  | .storeSiteTable => execStoreSiteTable s
  | .loadSiteTable => execLoadSiteTable s
  | .readAttention => execReadAttention s
  | .ackAttention f => execAckAttention f s
  | .setAttentionFloor f => execSetAttentionFloor f s
  | _ => .next s

/-- What the part sends on SDO in a transaction of so many bytes: the response buffer, then 00h, cut short where the
host clocks fewer bytes (R189, R193). -/
def sentBytes (response : List Byte) (count : Nat) : List Byte := (response ++ List.replicate count 0).take count

/-- A transaction's bytes sent. -/
def State.send (s : State) (count : Nat) : State :=
  { s with link := { s.link with sent := sentBytes s.link.response count } }

/-- A frame judged FRAME_ERROR: nothing is acted on, and the factor is raised (R191). -/
def State.frameError (s : State) : State := (s.refuse .frameError).raise .frameError

/-- A good frame decoded and passed to the owning block (R194). -/
def State.takeFrame (s : State) (code : Byte) (body : List Byte) : Host.Outcome State Fault Refusal :=
  match decodeCommand code body with
  | .unknownCommand => .next (s.refuse .unknownCommand)
  | .notPermitted => .next (s.refuse .notPermitted)
  | .command i => runLinkCommand i s

/-- COMMAND_FRAME: the rise of CSN after a transaction that delivered these whole bytes (R189, R191, R194). A
transaction without a whole byte is none; while the part is in reset none is received. -/
def execCommandFrame (bytes : List Byte) (s : State) : Host.Outcome State Fault Refusal :=
  if bytes = [] || !s.alive then .next s
  else
    let t := s.send bytes.length
    match judge bytes with
    | .frameError => .next t.frameError
    | .good code body => t.takeFrame code body

end Sys2Proof.Machine
end

