-- ==== Sys2Proof/Machine/Dispatch.lean ====
section
/-! DEFINITION. The meaning of every command and event, one arm each. -/

namespace Sys2Proof.Machine

/-- The effect of a command or an event on everything but the queue. -/
def exec (i : Instr) (s : State) : Host.Outcome State Fault Refusal :=
  match i with
  | .powerOn => Sys2Proof.Machine.execPowerOn s
  | .resetN => Sys2Proof.Machine.execResetN s
  | .commandFrame bytes => Sys2Proof.Machine.execCommandFrame bytes s
  | .noOperation => Sys2Proof.Machine.execNoOperation s
  | .readStatus => Sys2Proof.Machine.execReadStatus s
  | .restart => Sys2Proof.Machine.execRestart s
  | .bookPassage tag direction cls angle ready allowance autoRetire => Sys2Proof.Machine.execBookPassage tag direction cls angle ready allowance autoRetire s
  | .amendPassage tag mask direction cls angle ready allowance autoRetire => Sys2Proof.Machine.execAmendPassage tag mask direction cls angle ready allowance autoRetire s
  | .markPassing tag => Sys2Proof.Machine.execMarkPassing tag s
  | .markCleared tag => Sys2Proof.Machine.execMarkCleared tag s
  | .retirePassage tag => Sys2Proof.Machine.execRetirePassage tag s
  | .readPassage tag => Sys2Proof.Machine.execReadPassage tag s
  | .listPassages => Sys2Proof.Machine.execListPassages s
  | .callOpening => Sys2Proof.Machine.execCallOpening s
  | .declareLastCall => Sys2Proof.Machine.execDeclareLastCall s
  | .abortOpening => Sys2Proof.Machine.execAbortOpening s
  | .readOpening => Sys2Proof.Machine.execReadOpening s
  | .readLane lane => Sys2Proof.Machine.execReadLane lane s
  | .holdLane lane holdDown => Sys2Proof.Machine.execHoldLane lane holdDown s
  | .releaseHold lane => Sys2Proof.Machine.execReleaseHold lane s
  | .releaseRoad => Sys2Proof.Machine.execReleaseRoad s
  | .clearLaneFault lane => Sys2Proof.Machine.execClearLaneFault lane s
  | .ackTramCount lane => Sys2Proof.Machine.execAckTramCount lane s
  | .readHead head => Sys2Proof.Machine.execReadHead head s
  | .readChannel channel => Sys2Proof.Machine.execReadChannel channel s
  | .proveHead head => Sys2Proof.Machine.execProveHead head s
  | .clearLampFailure channel => Sys2Proof.Machine.execClearLampFailure channel s
  | .clearLampCounts => Sys2Proof.Machine.execClearLampCounts s
  | .readLeaves => Sys2Proof.Machine.execReadLeaves s
  | .resume => Sys2Proof.Machine.execResume s
  | .recover => Sys2Proof.Machine.execRecover s
  | .readStartWindow => Sys2Proof.Machine.execReadStartWindow s
  | .readSiteEntry entry => Sys2Proof.Machine.execReadSiteEntry entry s
  | .writeSiteEntry entry value => Sys2Proof.Machine.execWriteSiteEntry entry value s
  | .storeSiteTable => Sys2Proof.Machine.execStoreSiteTable s
  | .loadSiteTable => Sys2Proof.Machine.execLoadSiteTable s
  | .readAttention => Sys2Proof.Machine.execReadAttention s
  | .ackAttention factors => Sys2Proof.Machine.execAckAttention factors s
  | .setAttentionFloor floor => Sys2Proof.Machine.execSetAttentionFloor floor s
  | .uptimeAdvance => Sys2Proof.Machine.execUptimeAdvance s
  | .passageOverdue tag => Sys2Proof.Machine.execPassageOverdue tag s
  | .joinDeadline => Sys2Proof.Machine.execJoinDeadline s
  | .automaticCall => Sys2Proof.Machine.execAutomaticCall s
  | .passageProceed => Sys2Proof.Machine.execPassageProceed s
  | .roadIntervalExpiry => Sys2Proof.Machine.execRoadIntervalExpiry s
  | .directionChangeExpiry => Sys2Proof.Machine.execDirectionChangeExpiry s
  | .clearConfirmExpiry => Sys2Proof.Machine.execClearConfirmExpiry s
  | .spanBeamInputChange interrupted => Sys2Proof.Machine.execSpanBeamInputChange interrupted s
  | .spanBeamInterrupted => Sys2Proof.Machine.execSpanBeamInterrupted s
  | .spanBeamClear => Sys2Proof.Machine.execSpanBeamClear s
  | .amberExpiry lane => Sys2Proof.Machine.execAmberExpiry lane s
  | .redExpiry lane => Sys2Proof.Machine.execRedExpiry lane s
  | .tramCommitExpiry lane => Sys2Proof.Machine.execTramCommitExpiry lane s
  | .deckClearExpiry => Sys2Proof.Machine.execDeckClearExpiry s
  | .barrierEndSwitchChange group switch on => Sys2Proof.Machine.execBarrierEndSwitchChange group switch on s
  | .barrierStrokeTimeout group => Sys2Proof.Machine.execBarrierStrokeTimeout group s
  | .obstructionInputChange group on => Sys2Proof.Machine.execObstructionInputChange group on s
  | .obstructionClearExpiry group => Sys2Proof.Machine.execObstructionClearExpiry group s
  | .detectorInputChange input active => Sys2Proof.Machine.execDetectorInputChange input active s
  | .presenceFilterExpiry input => Sys2Proof.Machine.execPresenceFilterExpiry input s
  | .presenceDurationAdvance lane => Sys2Proof.Machine.execPresenceDurationAdvance lane s
  | .laneObstructed lane => Sys2Proof.Machine.execLaneObstructed lane s
  | .entryPulse lane => Sys2Proof.Machine.execEntryPulse lane s
  | .exitPulse lane => Sys2Proof.Machine.execExitPulse lane s
  | .pulseFilterRearm input => Sys2Proof.Machine.execPulseFilterRearm input s
  | .flashPhaseChange => Sys2Proof.Machine.execFlashPhaseChange s
  | .currentSenseChange channel present => Sys2Proof.Machine.execCurrentSenseChange channel present s
  | .noCurrentExpiry channel => Sys2Proof.Machine.execNoCurrentExpiry channel s
  | .darkCurrentExpiry channel => Sys2Proof.Machine.execDarkCurrentExpiry channel s
  | .testPulseEnd => Sys2Proof.Machine.execTestPulseEnd s
  | .periodicProvingExpiry => Sys2Proof.Machine.execPeriodicProvingExpiry s
  | .encoderStep leaf direction => Sys2Proof.Machine.execEncoderStep leaf direction s
  | .seatSwitchOn leaf => Sys2Proof.Machine.execSeatSwitchOn leaf s
  | .seatSwitchOff leaf => Sys2Proof.Machine.execSeatSwitchOff leaf s
  | .fullOpenSwitchOn leaf => Sys2Proof.Machine.execFullOpenSwitchOn leaf s
  | .lockEndSwitchChange lock switch on => Sys2Proof.Machine.execLockEndSwitchChange lock switch on s
  | .lockStrokeTimeout lock => Sys2Proof.Machine.execLockStrokeTimeout lock s
  | .pumpRunningInputChange pump on => Sys2Proof.Machine.execPumpRunningInputChange pump on s
  | .pumpStartTimeout pump => Sys2Proof.Machine.execPumpStartTimeout pump s
  | .pairUnlock => Sys2Proof.Machine.execPairUnlock s
  | .channelClearExpiry => Sys2Proof.Machine.execChannelClearExpiry s
  | .estopInputChange active => Sys2Proof.Machine.execEstopInputChange active s
  | .estopActive => Sys2Proof.Machine.execEstopActive s
  | .estopReleased => Sys2Proof.Machine.execEstopReleased s
  | .motionPeriod => Sys2Proof.Machine.execMotionPeriod s
  | .anemometerInputChange active => Sys2Proof.Machine.execAnemometerInputChange active s
  | .anemometerPulse => Sys2Proof.Machine.execAnemometerPulse s
  | .gateExpiry => Sys2Proof.Machine.execGateExpiry s
  | .startGrant => Sys2Proof.Machine.execStartGrant s
  | .grantAgeOut => Sys2Proof.Machine.execGrantAgeOut s
  | .keySwitchInputChange on => Sys2Proof.Machine.execKeySwitchInputChange on s
  | .keySwitchFilterExpiry => Sys2Proof.Machine.execKeySwitchFilterExpiry s
  | .storeCompletion readsBack => Sys2Proof.Machine.execStoreCompletion readsBack s
  | .fullOpenSwitchOff leaf => Sys2Proof.Machine.execFullOpenSwitchOff leaf s
  | .powerFailure => Sys2Proof.Machine.execPowerFailure s

end Sys2Proof.Machine
end

