-- ==== Sys2Proof/Machine/Clock.lean ====
section
/-! DEFINITION. The part's own clock, for a step that finds no command waiting (log entry 2): which timers run out, at
which moment, and the event each then is. -/

namespace Sys2Proof.Machine

/-- An event that falls due at a moment. -/
structure Due where
  due : Nat
  event : Instr
deriving DecidableEq, Repr

/-- The event of a running timer. -/
def dueAt (t : Timer) (i : Instr) : List Due := (t.map fun due => ⟨due, i⟩).toList

/-- The event of a timer that is so read only where its rule's condition holds. -/
def dueWhen (b : Bool) (t : Timer) (i : Instr) : List Due := if b then dueAt t i else []

/-- A lane's timers (R55, R78, R85). -/
def State.laneDues (s : State) (l : LaneNo) : List Due :=
  let x := s.lane l
  dueWhen (s.warningIn l .amber) x.timer (.amberExpiry l)
    ++ dueWhen (s.warningIn l .red) x.timer (.redExpiry l)
    ++ dueWhen (x.present && x.kind == .tram && x.state == .clearing) x.timer (.tramCommitExpiry l)
    ++ dueAt x.durationTimer (.presenceDurationAdvance l)

/-- A group's timers (R65, R67). -/
def State.groupDues (s : State) (g : GroupNo) : List Due :=
  let x := s.group g
  dueAt x.strokeTimer (.barrierStrokeTimeout g)
    ++ dueWhen (x.state == .obstructed) x.clearTimer (.obstructionClearExpiry g)

/-- A detector input's timers (R77, R80). -/
def State.detectorDues (s : State) (i : InputNo) : List Due :=
  let d := s.detector i
  let pulse : List Due :=
    match d.pulse, s.inputRole i with
    | .timing, some (l, .entry) => dueAt d.pulseTimer (.entryPulse l)
    | .timing, some (l, .exit) => dueAt d.pulseTimer (.exitPulse l)
    | .counted, _ => dueAt d.pulseTimer (.pulseFilterRearm i)
    | _, _ => []
  dueAt d.stability (.presenceFilterExpiry i) ++ pulse

/-- A lamp channel's timers (R96, R97). -/
def State.channelDues (s : State) (c : ChannelNo) : List Due :=
  dueAt (s.channel c).noCurrent (.noCurrentExpiry c) ++ dueAt (s.channel c).darkCurrent (.darkCurrentExpiry c)

/-- The deck clearing timer's moment (R58). -/
def DeckTimer.due : DeckTimer → Timer
  | .running due => some due
  | _ => none

/-- The filtered inputs' timers (R47, R132, R152, R181). -/
def State.filterDues (s : State) : List Due :=
  dueWhen (s.motion.estopRaw && !s.motion.estop) s.motion.estopTimer .estopActive
    ++ dueWhen (!s.motion.estopRaw && s.motion.estop) s.motion.estopTimer .estopReleased
    ++ dueWhen (s.beam.raw && !s.beam.filtered) s.beam.timer .spanBeamInterrupted
    ++ dueWhen (!s.beam.raw && s.beam.filtered) s.beam.timer .spanBeamClear
    ++ dueWhen (s.wind.filter == .qualifying) s.wind.pulseTimer .anemometerPulse
    ++ dueAt s.site.keyTimer .keySwitchFilterExpiry

/-- The timers of an opening and of the road interval (R32, R33, R41). -/
def State.openingDues (s : State) : List Due :=
  dueAt (s.book.opening.bind (·.confirmTimer)) .clearConfirmExpiry
    ++ dueAt (s.book.opening.bind (·.directionTimer)) .directionChangeExpiry
    ++ dueAt s.book.roadTimer .roadIntervalExpiry

/-- The timers of the pair, its locks and its pumps (R119, R121, R129). -/
def State.pairDues (s : State) : List Due :=
  allLocks.flatMap (fun k => dueAt (s.lock k).timer (.lockStrokeTimeout k))
    ++ bothSides.flatMap (fun i => dueAt (s.pump i).timer (.pumpStartTimeout i))
    ++ dueAt s.motion.pair.channelTimer .channelClearExpiry

/-- The timers that run without a break (R94, R98, R100, R137, R153, R197). -/
def State.steadyDues (s : State) : List Due :=
  dueAt s.wind.gateTimer .gateExpiry ++ dueAt s.motion.periodTimer .motionPeriod
    ++ dueAt s.lamps.flashTimer .flashPhaseChange ++ dueAt s.lamps.testTimer .testPulseEnd
    ++ dueAt s.lamps.periodicTimer .periodicProvingExpiry ++ dueAt (some s.clock.uptimeDue) .uptimeAdvance

/-- The store's completion; whether it reads back is a free value (R184; log entry 9). -/
def State.storeDues (s : State) : List Due :=
  dueAt (s.site.store.map (·.due)) (.storeCompletion (Config.storeReadsBack s.clock.now))

/-- Every running timer with its event. A lane's timers stand before its inputs', so that a presence that ends on a
tenth of a second has that tenth counted (R78). -/
def State.dues (s : State) : List Due :=
  s.filterDues ++ (List.finRange 12).flatMap s.laneDues ++ (List.finRange 16).flatMap s.detectorDues
    ++ dueAt s.road.deck.due .deckClearExpiry ++ (List.finRange 8).flatMap s.groupDues ++ s.pairDues ++ s.openingDues
    ++ (List.finRange 48).flatMap s.channelDues ++ s.steadyDues ++ dueAt s.ageOutDue .grantAgeOut ++ s.storeDues

/-- The earlier of two due events, the first of two at the same moment. -/
def earlier (a : Option Due) (b : Due) : Option Due :=
  match a with
  | none => some b
  | some a => if b.due < a.due then some b else some a

/-- The event whose moment has come: the earliest, and of several at one moment the first in the order above. -/
def State.dueNow (s : State) : Option Instr :=
  ((s.dues.filter fun d => decide (d.due ≤ s.clock.now)).foldl earlier none).map (·.event)

/-- One millisecond passes. -/
def State.tick (s : State) : State := s.reach (s.clock.now + 1)

/-- What the part does with no command waiting: an event whose moment has come, or else one millisecond passes; without
power, nothing. -/
def State.idle (s : State) : Host.Outcome State Fault Refusal :=
  if s.alive then
    match s.dueNow with
    | some e => exec e s
    | none => .next s.tick
  else .next s

end Sys2Proof.Machine
end

