-- ==== Sys2Proof/Safety.lean ====
section
/-! DEFINITION. The terms in which claims speak: what it is for a command to complete, and the invariants of the part,
block by block, each kept by every step. -/

namespace Sys2Proof.Machine

/-- A command answers a next state. -/
def Completes (c : Instr) (s : State) : Prop := ∃ t, exec c s = .next t

/-- The command starts the part afresh, or takes its power away: a power, reset or restart command, alone or in a
frame. -/
def mayReset : Instr → Bool
  | .powerOn | .resetN | .powerFailure | .restart | .commandFrame _ => true
  | _ => false

/-- The field inputs, which the pins show with power or without. -/
def isPinChange : Instr → Bool
  | .spanBeamInputChange _ | .barrierEndSwitchChange _ _ _ | .obstructionInputChange _ _ | .detectorInputChange _ _
  | .currentSenseChange _ _ | .seatSwitchOn _ | .seatSwitchOff _ | .fullOpenSwitchOn _ | .fullOpenSwitchOff _
  | .lockEndSwitchChange _ _ _ | .pumpRunningInputChange _ _ | .estopInputChange _ | .anemometerInputChange _
  | .keySwitchInputChange _ => true
  | _ => false

/-- Class LIFT stands ahead of class BARRIER in the queue, and no requester stands twice (R161, R162). -/
def queueOk (q : List Requester) : Prop :=
  q.Nodup ∧ q.Pairwise fun a b => isLift b = true → isLift a = true

/-- The Start Window: a queue in its form, and no more grants in the list than START_LIMIT (R162 to R164). -/
def State.windowOk (s : State) : Prop := queueOk s.window.queue ∧ s.window.grants.length ≤ s.cfg Entry.startLimit

/-- The Wind Monitor: at most four gate values, none above 600, and a counter that has not turned (R153 to R155). -/
def Wind.ok (w : Wind) : Prop := w.gates.length ≤ 4 ∧ (∀ g ∈ w.gates, g ≤ 600) ∧ w.counter ≤ 4095

/-- Every numeric entry of a table lies in its range, with the table's own ANGLE_FULL (R172, R177). -/
def tableInRange (t : SiteTable) : Prop :=
  ∀ (e : EntryNo) (lo hi : Nat), entryRange (SiteTable.num t Entry.angleFull) e = some (lo, hi) →
    lo ≤ SiteTable.num t e ∧ SiteTable.num t e ≤ hi

/-- Every lane and channel entry of a table names values that exist (R176). -/
def tableNames (t : SiteTable) : Prop := ∀ e : EntryNo, namesExist e t[e] = true

/-- A table that the part may work from: in range, naming what exists, and consistent (R176 to R178). -/
def tableOk (t : SiteTable) : Prop := tableInRange t ∧ tableNames t ∧ consistent t = true

/-- The Site Table Store: the working copy may be worked from, and so may a copy in course of being stored, and the
stored copy while its check agrees (R172, R176, R184). -/
def SiteStore.ok (x : SiteStore) : Prop :=
  tableOk x.working ∧ (∀ j, x.store = some j → tableOk j.copy) ∧ (x.agrees = true → tableOk x.stored)

/-- The Command Link: the response buffer holds a frame with its check and a result code, and the floor is a level
(R190, R193, R194, R203). -/
def Link.ok (x : Link) : Prop := (∃ (r : Result) (body : List Byte), x.response = frame r.code body) ∧ x.floor ≤ 3

/-- The passage slots: a record knows its slot, its tag is not 0, and no tag is live twice (R1, R2). -/
def Book.slotsOk (b : Book) : Prop :=
  (∀ (i : Fin 16) (p : Passage), b.slots[i] = some p → p.slot = i ∧ p.tag ≠ 0) ∧
  ∀ (i j : Fin 16) (p q : Passage), b.slots[i] = some p → b.slots[j] = some q → p.tag = q.tag → i = j

/-- The pair record: it is HALTED exactly while a halt cause is in the set, in FAULT exactly while it has a fault
cause, and the state that it keeps is neither of these (R117, R126 to R130). -/
def Pair.ok (p : Pair) : Prop :=
  (p.halts ≠ HaltSet.empty ↔ p.state = .halted) ∧ (p.cause.isSome ↔ p.state = .fault) ∧
  p.interrupted ≠ some .halted ∧ p.interrupted ≠ some .fault

/-- The lamp unit: while the part is in operation every head has the aspect that its block asks for (R45, R73, R91) and
no channel waits to be tested while none is (R98). A channel is driven LIT exactly where its element is wanted lit, it
is GOOD, and it carries the main string, or the standby string of an element whose main string is not GOOD (R93, R95);
TEST exactly while it is under test, assigned and not FAILED_STUCK (R98, R99); and its timers run only while it is
driven LIT, or OFF (R96, R97). -/
def State.lampsOk (s : State) : Prop :=
  (s.alive = true →
    (∀ h : HeadNo, s.lamps.aspects[h] = s.aspectFor h) ∧ (s.lamps.underTest = none → s.lamps.proving = [])) ∧
  ∀ c : ChannelNo,
    ((s.channel c).drive = .lit ↔ ∃ a, (s.channel c).assignment = some a ∧ (s.channel c).state = .good ∧
      s.lamps.wantedLit a.head a.element = true ∧
      (a.standby = true → ∀ d : ChannelNo, (s.channel d).assignment = some { a with standby := false } →
        (s.channel d).state ≠ .good)) ∧
    ((s.channel c).drive = .test ↔ s.lamps.underTest = some c) ∧
    ((s.channel c).drive = .test → (s.channel c).assignment ≠ none ∧ (s.channel c).state ≠ .failedStuck) ∧
    ((s.channel c).noCurrent ≠ none → (s.channel c).drive = .lit) ∧
    ((s.channel c).darkCurrent ≠ none → (s.channel c).drive = .off)

/-- The figures that saturate: encoder counts, section counts, presence durations and failure counters (R116, R81, R78,
R105). -/
def State.countersOk (s : State) : Prop :=
  s.motion.leafN.count ≤ 65535 ∧ s.motion.leafS.count ≤ 65535 ∧
  (∀ l : LaneNo, (s.lane l).count ≤ 7 ∧ (s.lane l).duration ≤ 65535) ∧
  ∀ c : ChannelNo, (s.channel c).failures ≤ 15

end Sys2Proof.Machine
end

