-- ==== Sys2Proof/Certificates/Slice0/Obligations.lean ====
section
/-! DEFINITION. The statements for the provers, taken from the spec's rules: the machine and its resets, the Command
Link, then each block's commands with what they change and what they leave, then the invariants that every step keeps.
Where a command's act goes on into other blocks, the statement gives the state from which the rest of the act
(`State.finish`) goes on; the invariants below hold of its end. -/

open Sys2Proof Sys2Proof.Machine

/-! ### The machine -/

/-- A step takes the command at the front of the queue and runs it on the state with the queue's rest. The model's own
choice for a step that finds no command waiting (log entry 2): an event whose moment has come is taken, else one
millisecond passes and nothing else changes; without power nothing happens. A timer of the list below that runs falls
due as its event at its moment; where some moment has come, the event taken is one of an earliest moment, and no event
is taken before its moment. -/
def Obligations.StepRunsTheFrontCommandElseTimePasses : Prop :=
  (∀ (s : State) (c : Instr) (rest : List Instr), step (s.withPending (c :: rest)) = exec c (s.withPending rest)) ∧
  (∀ s : State, s.pending = [] →
     (s.alive = true → s.dueNow = none →
       step s = .next { s with clock := { s.clock with now := s.clock.now + 1 } }) ∧
     (∀ e, s.alive = true → s.dueNow = some e → step s = exec e s) ∧
     (s.alive = false → step s = .next s)) ∧
  ∀ s : State,
    let falls (due : Nat) (i : Instr) : Prop := (⟨due, i⟩ : Due) ∈ s.dues
    let runs (t : Timer) (i : Instr) : Prop := ∀ due, t = some due → falls due i
    (∀ d ∈ s.dues, d.due ≤ s.clock.now → ∃ e ∈ s.dues, s.dueNow = some e.event ∧ e.due ≤ d.due) ∧
    (∀ i, s.dueNow = some i → ∃ d ∈ s.dues, d.event = i ∧ d.due ≤ s.clock.now) ∧
    falls s.clock.uptimeDue .uptimeAdvance ∧ runs s.motion.periodTimer .motionPeriod ∧
    runs s.wind.gateTimer .gateExpiry ∧ runs s.lamps.flashTimer .flashPhaseChange ∧
    runs s.lamps.testTimer .testPulseEnd ∧ runs s.lamps.periodicTimer .periodicProvingExpiry ∧
    (∀ l, let x := s.lane l
      (x.present = true → x.state = .warning → x.subPhase = some .amber → runs x.timer (.amberExpiry l)) ∧
      (x.present = true → x.state = .warning → x.subPhase = some .red → runs x.timer (.redExpiry l)) ∧
      (x.present = true → x.kind = .tram → x.state = .clearing → runs x.timer (.tramCommitExpiry l)) ∧
      runs x.durationTimer (.presenceDurationAdvance l)) ∧
    (∀ due, s.road.deck = .running due → falls due .deckClearExpiry) ∧
    (∀ g, let x := s.group g
      runs x.strokeTimer (.barrierStrokeTimeout g) ∧
      (x.state = .obstructed → runs x.clearTimer (.obstructionClearExpiry g))) ∧
    (∀ i, let d := s.detector i
      runs d.stability (.presenceFilterExpiry i) ∧ (d.pulse = .counted → runs d.pulseTimer (.pulseFilterRearm i)) ∧
      ∀ l, d.pulse = .timing →
        (s.inputRole i = some (l, .entry) → runs d.pulseTimer (.entryPulse l)) ∧
        (s.inputRole i = some (l, .exit) → runs d.pulseTimer (.exitPulse l))) ∧
    (∀ c, runs (s.channel c).noCurrent (.noCurrentExpiry c) ∧ runs (s.channel c).darkCurrent (.darkCurrentExpiry c)) ∧
    (∀ k, runs (s.lock k).timer (.lockStrokeTimeout k)) ∧ (∀ i, runs (s.pump i).timer (.pumpStartTimeout i)) ∧
    runs s.motion.pair.channelTimer .channelClearExpiry ∧
    (s.motion.estopRaw = true → s.motion.estop = false → runs s.motion.estopTimer .estopActive) ∧
    (s.motion.estopRaw = false → s.motion.estop = true → runs s.motion.estopTimer .estopReleased) ∧
    (s.beam.raw = true → s.beam.filtered = false → runs s.beam.timer .spanBeamInterrupted) ∧
    (s.beam.raw = false → s.beam.filtered = true → runs s.beam.timer .spanBeamClear) ∧
    (s.wind.filter = .qualifying → runs s.wind.pulseTimer .anemometerPulse) ∧
    runs s.site.keyTimer .keySwitchFilterExpiry ∧ runs s.book.roadTimer .roadIntervalExpiry ∧
    (∀ o, s.book.opening = some o →
      runs o.confirmTimer .clearConfirmExpiry ∧ runs o.directionTimer .directionChangeExpiry) ∧
    (∀ g rest, s.window.grants = g :: rest →
      falls (s.clock.now + (1000 * s.cfg Entry.startWindow - (BitVec.ofNat 32 s.clock.now - g.stamp).toNat))
        .grantAgeOut) ∧
    ∀ j, s.site.store = some j → ∃ readsBack, falls j.due (.storeCompletion readsBack)

/-- No command ever stops the part: every command answers a next state, and none touches the commands that wait. The
spec names no condition that stops the part, and every refusal is a response. While the part is without power nothing
acts (the model's choice for what the pins then do is log entry 12): every command but power coming on and the change
of a pin leaves the whole state, and a pin's change moves no response, no factor, no table, no passage and no pair
state. -/
def Obligations.EveryCommandCompletesAndWithoutPowerNothingActs : Prop :=
  (∀ (c : Instr) (s : State), ∃ t, exec c s = .next t ∧ t.pending = s.pending) ∧
  ∀ (c : Instr) (s t : State), s.alive = false → c ≠ .powerOn → exec c s = .next t →
    (isPinChange c = false → t = s) ∧
    t.alive = false ∧ t.link = s.link ∧ t.clock = s.clock ∧ t.book = s.book ∧ t.window = s.window ∧
    t.site.working = s.site.working ∧ t.site.stored = s.site.stored ∧ t.motion.pair = s.motion.pair

/-- The rest of an act (log entry 4): the reactions are taken one after another, the first of their order that there
is, until none is left; then the act is over, and the lamp unit takes the aspects, the drives and the next test. The
closure demand is recomputed first: true while the opening is in CALLED to LOWERING or the pair out of LOCKED. At its
rise a lane in RELEASING with no hold turns back by its group's state (SECURING in AWAIT_GRANT_DOWN and GOING_DOWN is
the model's choice, log entry 17); at its fall a lane with no hold gives its closing up by its state and its group's
(a lane in SECURING that enters RELEASING with its group in DOWN, and one that stays with it in AWAIT_GRANT_UP,
GOING_UP or FAULT, are the model's choice, log entry 18), and the deck clearing timer stops. That timer is started
when every present ENTRY lane is CLOSED or HELD under the demand. -/
def Obligations.AnActGoesOnUntilNothingIsLeft : Prop :=
  (∀ s : State,
    (reaction s = none → s.finish = State.lampStage { s with window := { s.window with asked := [] } }) ∧
    (∀ t n, reaction s = some t → n < Config.actBound → reaction (settle n t) = none → s.finish = t.finish) ∧
    reaction s = (closureReaction s <|> lanesReaction s <|> deckReaction s <|> groupsReaction s <|> haltReaction s <|>
      openingReaction s <|> pairReaction s <|> grantReaction s)) ∧
  ∀ s : State,
    let asked := (∃ o, s.book.opening = some o ∧ o.state ≠ .releasing) ∨ s.motion.pair.state ≠ .locked
    let turns (l : LaneNo) : Prop := (s.lane l).present = true ∧ (s.lane l).hold = .free
    let state (l : LaneNo) : LaneState := (s.lane l).state
    let enter (l : LaneNo) (st : LaneState) : Lane :=
      { s.lane l with state := st, subPhase := none, cause := none, timer := none, keptClosed := false }
    let touched (st : LaneState) (g : GroupNo) : Prop := ∃ l, turns l ∧ state l = st ∧ (s.lane l).group = some g
    let framed (u : State) (st : LaneState) (gs : List GroupState) : Prop :=
      { u with road := s.road, window := s.window } = s ∧ { u.window with queue := s.window.queue } = s.window ∧
      u.window.queue.Sublist s.window.queue ∧
      (∀ r, r ∈ u.window.queue ↔ r ∈ s.window.queue ∧
        ¬∃ g, r = groupRequester g ∧ touched st g ∧ (s.group g).state ∈ gs) ∧
      (∀ l, ¬turns l → u.lane l = s.lane l)
    ((asked ↔ s.road.closureDemand = true) → closureReaction s = none) ∧
    (asked → s.road.closureDemand = false → ∃ u : State, reaction s = some u ∧ framed u .releasing [.awaitUp] ∧
      u.road.closureDemand = true ∧ u.road.deck = s.road.deck ∧
      (∀ l, turns l → (state l ≠ .releasing ∨ (s.lane l).group = none) → u.lane l = s.lane l) ∧
      (∀ l g, turns l → state l = .releasing → (s.lane l).group = some g →
        u.lane l = match (s.group g).state with
          | .awaitUp | .down => enter l .closed
          | .stopped | .obstructed | .awaitDown | .goingDown => enter l .securing
          | .goingUp | .up | .fault => s.lane l) ∧
      ∀ g, (touched .releasing g → (s.group g).state = .awaitUp →
          u.group g = { s.group g with state := .down, heldStroke := none }) ∧
        (touched .releasing g → (s.group g).state = .stopped →
          u.group g = { s.group g with heldStroke := some .down }) ∧
        (¬touched .releasing g ∨ ((s.group g).state ≠ .awaitUp ∧ (s.group g).state ≠ .stopped) →
          u.group g = s.group g)) ∧
    (¬asked → s.road.closureDemand = true → ∃ u : State, reaction s = some u ∧
      framed u .securing [.up, .awaitDown] ∧ u.road.closureDemand = false ∧ u.road.deck = .stopped ∧
      (∀ l, turns l →
        (state l = .isOpen ∨ state l = .releasing ∨ state l = .held ∨ state l = .fault → u.lane l = s.lane l) ∧
        (state l = .warning ∨ state l = .clearing → u.lane l = enter l .isOpen) ∧
        (state l = .closed → u.lane l =
          if (s.lane l).keptClosed then s.lane l
          else if (s.lane l).group = none then enter l .isOpen else enter l .releasing) ∧
        (state l = .securing → (s.lane l).group = none → u.lane l = s.lane l) ∧
        ∀ g, state l = .securing → (s.lane l).group = some g →
          u.lane l = match (s.group g).state with
            | .up | .awaitDown => enter l .isOpen
            | .obstructed | .stopped | .down => enter l .releasing
            | .goingDown | .awaitUp | .goingUp | .fault => s.lane l) ∧
      ∀ g, (touched .securing g → (s.group g).state = .up ∨ (s.group g).state = .awaitDown →
          u.group g = { s.group g with state := .up, heldStroke := none }) ∧
        (¬touched .securing g ∨ ((s.group g).state ≠ .up ∧ (s.group g).state ≠ .awaitDown) →
          u.group g = s.group g)) ∧
    let ready := s.road.deck = .stopped ∧ s.road.closureDemand = true ∧
      ∀ l, (s.lane l).present = true → (s.lane l).role = .entry → state l = .closed ∨ state l = .held
    (ready → deckReaction s = some { s with road := { s.road with
      deck := .running (s.clock.now + 1000 * s.cfg Entry.deckClearTime) } }) ∧
    (¬ready → deckReaction s = none)

/-! ### Reset and power -/

/-- The reset values that the rules give: the response buffer, the pending set and the floor, the clock, the book, the
wind monitor, the Start Window, the flash and proving timers, the motion record. The state after reset meets every
invariant above. (`State.reset` is the reset of a part whose field inputs show a bridge at rest, log entry 6, and whose
stored copy holds the factory values with the check that agrees, log entry 7. Both are the model's choice: the empty
pending set and what the invariants say of the site table, the stored copy, the pair, the lanes and the lamps rest on
them. What a reset leaves for any inputs and any stored copy is O5.) -/
def Obligations.ResetStateHasTheSpecsValues : Prop :=
  (let s := State.reset
   s.pending = [] ∧
   s.link.response = [0x00, 0x00, 0x1D, 0x0F] ∧ s.link.factors = 0 ∧ s.link.floor = 0 ∧
   s.clock.now = 0 ∧ s.clock.uptime = 0 ∧
   (∀ i : Fin 16, s.book.slots[i] = none) ∧ s.book.waiting = [] ∧ s.book.opening = none ∧ s.book.lastNumber = 0 ∧
   s.book.roadTimer = none ∧
   s.wind.filter = .counted ∧ s.wind.counter = 0 ∧ s.wind.gateTimer = some 3000 ∧ s.wind.gates = [] ∧
   s.wind.high = false ∧
   s.window.queue = [] ∧ s.window.grants = [] ∧ s.window.asked = [] ∧
   s.lamps.phaseB = false ∧ s.lamps.periodicTimer = some 60000 ∧ s.lamps.firstFailure = none ∧
   s.road.deck = .stopped ∧ s.motion.period.number = 0 ∧ s.motion.period.pairDemand = 0 ∧
   s.motion.periodTimer = some 20) ∧
  (State.reset.windowOk ∧ State.reset.site.ok ∧ State.reset.link.ok ∧ State.reset.wind.ok ∧
   State.reset.countersOk ∧ State.reset.book.slotsOk ∧ State.reset.motion.pair.ok ∧ State.reset.lampsOk)

/-- What every reset finds and leaves, by RESETN, by power coming on (the model's choice for POWER_ON with power is
log entry 14) and by RESTART at rest (out of rest RESTART is refused BUSY). The blocks find a state u, and the act
goes on from it (O3). In u: the pair is LOCKED with both seats on and every lock DRIVEN by its switches, else in FAULT
with POSITION_UNKNOWN; locks and groups are as their switches show, and every lane follows its group by its site
entry; leaves, pumps, period record and its 20 ms are fresh; the Start Window is empty; every channel is GOOD and OFF,
and the assigned ones are on the proving list in number order; the detectors restart; and just SITE_INVALID,
LANE_FAULT, MOTION_FAULT and E_STOP are pending, each where its rule gives it. Then, after the act: the clock from 0,
the reset response, floor 0, an empty book with no opening, none of factors 0 to 3 pending, the filtered span beam
CLEAR with its 500 ms begun by an interrupted input, no gate value, the filtered inputs as read or inactive, counts of
0 that are valid on the seats, and failure counters of 0. The commands that wait and the raw inputs stay. With no
store cut off, the working copy is loaded from a stored copy whose check agrees, and holds the factory values
otherwise; the site-invalid and unstored flags say which. -/
def Obligations.EveryResetLeavesItsValuesAndLoadsTheTable : Prop :=
  (∀ s : State, s.alive = true → s.atRest = false → exec .restart s = .next (s.refuse .busy)) ∧
  ∀ (s : State) (c : Instr),
    (c = .powerOn ∨ (c = .resetN ∧ s.alive = true) ∨ (c = .restart ∧ s.alive = true ∧ s.atRest = true)) →
    ∃ u t : State, exec c s = .next t ∧ t = u.finish ∧
      (let driven (k : LockId) : Prop := (s.lock k).drivenSwitch = true ∧ (s.lock k).withdrawnSwitch = false
       let withdrawn (k : LockId) : Prop := (s.lock k).withdrawnSwitch = true ∧ (s.lock k).drivenSwitch = false
       let locked := (∀ i, (s.leaf i).seat = true) ∧ ∀ k, driven k
       let valid (i : Side) : Option Nat := if (s.leaf i).seat then some 0 else none
       let down (g : GroupNo) : Prop := (s.group g).downSwitch = true ∧ (s.group g).upSwitch = false
       let up (g : GroupNo) : Prop := (s.group g).upSwitch = true ∧ (s.group g).downSwitch = false
       let num (e : EntryNo) : Nat := u.site.working[e].toNat
       let pair (st : PairState) (cause : Option PairFault) : Pair := {
         state := st, target := none, interrupted := none, halts := HaltSet.empty, channelTimer := none
         cause := cause, step := none, skewWarning := false }
       (locked → u.motion.pair = pair .locked none) ∧
       (¬locked → u.motion.pair = pair .fault (some .positionUnknown)) ∧
       (∀ k, { u.lock k with state := (s.lock k).state } =
           { s.lock k with stroke := none, held := false, timer := none } ∧
         (driven k → (u.lock k).state = .driven) ∧ (withdrawn k → (u.lock k).state = .withdrawn) ∧
         (¬driven k → ¬withdrawn k → (u.lock k).state = .fault)) ∧
       (∀ i, u.pump i = { s.pump i with state := .off, held := false, timer := none }) ∧
       (∀ i, u.leaf i = { s.leaf i with
         count := 0, countValid := (s.leaf i).seat, direction := .raise, demand := 0 }) ∧
       u.motion.period = {
         number := 0, countN := 0, countS := 0, angleN := valid .n, angleS := valid .s
         skew := if (s.leaf .n).seat && (s.leaf .s).seat then some 0 else none
         lead := none, limits := none, pairDemand := 0, correction := 0 } ∧
       u.motion.periodTimer = some 20 ∧ u.motion.rampBase = 0 ∧ u.motion.estopTimer = none ∧
       (∀ g, { u.group g with state := (s.group g).state, cause := (s.group g).cause } =
           { s.group g with strokeTimer := none, clearTimer := none, heldStroke := none } ∧
         (down g → (u.group g).state = .down ∧ (u.group g).cause = none) ∧
         (up g → (u.group g).state = .up ∧ (u.group g).cause = none) ∧
         (¬down g → ¬up g → (u.group g).state = .fault ∧ (u.group g).cause = some .resetPosition)) ∧
       (∀ l, let w := u.site.working[Entry.lane l]
         let x := u.lane l
         x.present = (laneKind w).isSome ∧ (∀ k, laneKind w = some k → x.kind = k) ∧ x.approach = laneApproach w ∧
         x.role = laneRole w ∧ x.group = laneGroup w ∧ x.input1 = laneInput1 w ∧ x.input2 = laneInput2 w ∧
         x.hold = .free ∧ x.timer = none ∧ x.subPhase = none ∧ x.count = 0 ∧ x.duration = 0 ∧
         x.durationTimer = none ∧ x.obstructed = false ∧
         (x.present = true → ∀ g, x.group = some g →
           ((u.group g).state = .down → x.state = .closed ∧ x.keptClosed = true ∧ x.cause = none) ∧
           ((u.group g).state = .up → x.state = .isOpen ∧ x.keptClosed = false ∧ x.cause = none) ∧
           ((u.group g).state = .fault → x.state = .fault ∧ x.keptClosed = false ∧ x.cause = some .resetPosition)) ∧
         (x.present = true → x.group = none → x.state = .isOpen ∧ x.keptClosed = false ∧ x.cause = none)) ∧
       u.road.deck = .stopped ∧ u.window = { queue := [], grants := [], asked := [] } ∧
       (∀ c, u.channel c = {
         assignment := channelAssignment u.site.working[Entry.channel c], state := .good, drive := .off
         sense := (s.channel c).sense, noCurrent := none, darkCurrent := none, failures := 0 }) ∧
       u.lamps.proving = (List.finRange 48).filter (fun c =>
         (channelAssignment u.site.working[Entry.channel c]).isSome) ∧
       u.lamps.underTest = none ∧ u.lamps.testTimer = none ∧ u.lamps.periodicTimer = some 60000 ∧
       u.lamps.phaseB = false ∧ u.lamps.flashTimer = some (30000 / num Entry.flashRate) ∧
       u.lamps.firstFailure = none ∧
       (∀ i, let role := (u.inputRole i).map Prod.snd
         u.detector i = {
           level := (s.detector i).level, presence := false, pulse := .counted
           stability := if role = some .presence ∧ (s.detector i).level = true then some 200 else none
           pulseTimer :=
             if (role = some .entry ∨ role = some .exit) ∧ (s.detector i).level = false then some 40 else none }) ∧
       (u.link.factors.getLsbD 5 = true ↔ ∃ l, (u.lane l).present = true ∧ (u.lane l).state = .fault) ∧
       (u.link.factors.getLsbD 9 = true ↔ ¬locked) ∧
       (u.link.factors.getLsbD 12 = true ↔ s.motion.estopRaw = true) ∧
       (u.link.factors.getLsbD 14 = true ↔ u.site.invalid = true) ∧
       (∀ k, k ≠ 5 → k ≠ 9 → k ≠ 12 → k ≠ 14 → u.link.factors.getLsbD k = false)) ∧
      t.pending = s.pending ∧ t.alive = true ∧
      t.clock = { now := 0, uptime := 0, uptimeDue := 1000 } ∧
      t.link.response = [0x00, 0x00, 0x1D, 0x0F] ∧ t.link.floor = 0 ∧
      (∀ tag, t.passage tag = none) ∧ t.book.waiting = [] ∧ t.book.clearedOrder = [] ∧ t.book.opening = none ∧
      t.book.lastNumber = 0 ∧ t.book.roadTimer = none ∧
      (∀ k, k ≤ 3 → t.link.factors.getLsbD k = false) ∧
      t.beam = { raw := s.beam.raw, filtered := false, timer := if s.beam.raw then some 500 else none } ∧
      t.wind = { raw := s.wind.raw, filter := .counted, pulseTimer := none, counter := 0, gateTimer := some 3000,
                 gates := [], high := false } ∧
      t.site.key = s.site.keyRaw ∧ t.site.store = none ∧ t.site.lastResult = none ∧
      t.motion.estop = s.motion.estopRaw ∧ t.motion.estopRaw = s.motion.estopRaw ∧
      (∀ i, (t.leaf i).count = 0 ∧ (t.leaf i).countValid = (s.leaf i).seat ∧ (t.leaf i).seat = (s.leaf i).seat) ∧
      (∀ i, (t.detector i).level = (s.detector i).level ∧ (t.detector i).presence = false ∧
        (t.detector i).pulse = .counted) ∧
      (∀ c, (t.channel c).failures = 0 ∧ (t.channel c).sense = (s.channel c).sense ∧
        (t.channel c).state = .good) ∧
      (∀ l, (t.lane l).count = 0 ∧ (t.lane l).hold = .free) ∧
      t.lamps.phaseB = false ∧ t.lamps.firstFailure = none ∧
      (s.site.store = none →
        t.site.stored = s.site.stored ∧ t.site.storedCheck = s.site.storedCheck ∧
        (tableCheck s.site.stored = s.site.storedCheck →
          t.site.working = s.site.stored ∧ t.site.invalid = false ∧ t.site.unstored = false) ∧
        (tableCheck s.site.stored ≠ s.site.storedCheck →
          t.site.working = SiteTable.factoryReset ∧ t.site.invalid = true ∧ t.site.unstored = true ∧
          t.link.factors.getLsbD 14 = true))


/-- A reset or a loss of power during a store leaves a stored copy whose check does not agree, so that the part then
runs from the factory values, site-invalid. (What the copy holds is a free value, log entry 8; the statement holds for
every value of it; that POWER_ON while the part has power is a reset, and so cuts a store off, is the model's choice,
log entry 14.) A loss of power puts the part out of action: it is out of operation, ATTN is high, the stored copy
stays (with no store in progress), and power coming on then resets it. -/
def Obligations.ResetAndPowerLossDuringAStore : Prop :=
  (∀ (s : State) (j : StoreJob) (c : Instr), s.alive = true → s.site.store = some j →
     (c = .resetN ∨ c = .powerOn ∨ c = .powerFailure) →
     ∃ t, exec c s = .next t ∧ t.site.agrees = false ∧ t.site.working = SiteTable.factoryReset ∧
       t.site.invalid = true ∧ t.site.store = none) ∧
  (∀ s : State, s.alive = true →
     ∃ t, exec .powerFailure s = .next t ∧ t.alive = false ∧ t.attnLine = false ∧ t.pending = s.pending ∧
       (s.site.store = none → t.site.stored = s.site.stored ∧ t.site.storedCheck = s.site.storedCheck) ∧
       ∃ u, exec .powerOn t = .next u ∧ u.alive = true)

/-! ### The Command Link -/

/-- The judging of a transaction: its bytes are a good frame exactly where they begin with a code, a body length of at
most 48, that many body bytes and the check of these; bytes after the check are ignored, and everything else is a
frame error. A frame error acts on nothing: the response is FRAME_ERROR with an empty body and the factor FRAME_ERROR
is raised. -/
def Obligations.TransactionsAreJudged : Prop :=
  (∀ (bytes : List Byte) (code : Byte) (body : List Byte),
    judge bytes = .good code body ↔ body.length ≤ 48 ∧ ∃ extra, bytes = frame code body ++ extra) ∧
  ∀ (s : State) (bytes : List Byte), s.alive = true → bytes ≠ [] → judge bytes = .frameError →
    exec (.commandFrame bytes) s = .next { s with link := { s.link with
      sent := (s.link.response ++ List.replicate bytes.length 0).take bytes.length
      response := frame 0x03 []
      factors := s.link.factors ||| 0x8000 } }

/-- Every well-formed link command is spelled by its code and body as the command summary lays them out: no bit of an
operand is lost between the frame and the command. -/
def Obligations.DecodeOfEncodeIsTheCommand : Prop :=
  ∀ (i : Instr) (code : Byte) (body : List Byte), i.codeAndBody = some (code, body) → i.wellFormed = true →
    body.length ≤ 48 ∧ decodeCommand code body = .command i

/-- A transaction that carries a link command's frame, with or without bytes after its check, completes and does what
the command itself does, after the response buffer has been sent (what is sent is log entry 10). A good frame is
decoded in the order of the tests: a code outside the summary is UNKNOWN_COMMAND whatever its body; a body of another
length, or an ill-coded byte that the owning block does not test, is NOT_PERMITTED. Either changes nothing but the
response and what was sent. -/
def Obligations.FramesAreTestedInOrderAndActAsTheirCommands : Prop :=
  (∀ (s : State) (i : Instr) (extra : List Byte), s.alive = true → i.codeAndBody ≠ none →
    ∃ t, exec (.commandFrame (i.frameOf ++ extra)) s = .next t ∧
      exec i (s.send (i.frameOf ++ extra).length) = .next t) ∧
  (∀ (code : Byte) (body : List Byte),
    ((∀ i : Instr, ∀ b, i.codeAndBody ≠ some (code, b)) → decodeCommand code body = .unknownCommand) ∧
    (∀ (i : Instr) (b : List Byte), i.codeAndBody = some (code, b) → body.length ≠ b.length →
      decodeCommand code body = .notPermitted) ∧
    (∀ i : Instr, i.codeAndBody = some (code, body) → i.wellFormed = false →
      decodeCommand code body = .notPermitted)) ∧
  ∀ (s : State) (code : Byte) (body extra : List Byte), s.alive = true → body.length ≤ 48 →
    let n := (frame code body ++ extra).length
    (decodeCommand code body = .unknownCommand →
      exec (.commandFrame (frame code body ++ extra)) s = .next ((s.send n).refuse .unknownCommand)) ∧
    (decodeCommand code body = .notPermitted →
      exec (.commandFrame (frame code body ++ extra)) s = .next ((s.send n).refuse .notPermitted))

/-- NO OPERATION and every READ command whose record exists complete with ACCEPTED, send their record and change
nothing but the response buffer. Each record has the length of the command summary and carries every field at the
bytes and bits that the layouts give: the status, passage, opening, lane, head, channel and entry records, the leaf
snapshot and the start window record. (What absent fields and an idle opening carry is log entry 22, that timers in
seconds are rounded down is log entry 23, that the recovery step is reported only while RECOVERING is log entry 35,
and that the count-valid flags are those in force is log entry 50.) -/
def Obligations.ReadCommandsAnswerTheirRecords : Prop :=
  (∀ s : State, s.alive = true →
     let answer (body : List Byte) : Host.Outcome State Fault Refusal :=
       .next { s with link := { s.link with response := frame 0x00 body } }
     exec .noOperation s = answer [] ∧
     exec .readStatus s = answer s.statusRecord ∧
     (∀ tag p, s.passage tag = some p → exec (.readPassage tag) s = answer p.record) ∧
     exec .listPassages s = answer s.passageLists ∧
     exec .readOpening s = answer s.openingRecord ∧
     (∀ (b : Byte) (l : LaneNo), b.toNat = l.val → exec (.readLane b) s = answer (s.laneRecord l)) ∧
     (∀ (b : Byte) (h : HeadNo), b.toNat = h.val → exec (.readHead b) s = answer (s.headRecord h)) ∧
     (∀ (b : Byte) (c : ChannelNo), b.toNat = c.val → exec (.readChannel b) s = answer (s.channelRecord c)) ∧
     exec .readLeaves s = answer s.leafSnapshot ∧
     exec .readStartWindow s = answer s.windowRecord ∧
     ∀ (b : Byte) (e : EntryNo), b.toNat = e.val → exec (.readSiteEntry b) s = answer (s.entryRecord e)) ∧
  let part (r : List Byte) (n k : Nat) : List Byte := (r.drop n).take k
  let flag (r : List Byte) (n k : Nat) : Bool := (r.getD n 0).getLsbD k
  (∀ p : Passage, let r := p.record
     r.length = 29 ∧ part r 0 2 = bytesOf16 p.tag ∧
     part r 2 3 = [byteOf p.slot.val, byteOf p.direction.code, byteOf p.cls.code] ∧ part r 5 2 = two p.angle ∧
     part r 7 2 = two p.allowance ∧ part r 9 1 = [byteOf p.status.code] ∧ flag r 10 0 = (p.status != .booked) ∧
     flag r 10 1 = p.autoRetire ∧ flag r 10 2 = p.overdue ∧ flag r 10 4 = p.readySince.isSome ∧
     flag r 10 5 = p.openingNumber.isSome ∧ flag r 10 6 = p.proceedAt.isSome ∧ flag r 10 7 = p.clearedAt.isSome ∧
     part r 11 4 = four p.bookedAt.toNat ∧ part r 15 4 = optFour (p.readySince.map (·.toNat)) ∧
     part r 19 2 = optTwo p.openingNumber ∧ part r 21 4 = optFour (p.proceedAt.map (·.toNat)) ∧
     part r 25 4 = optFour (p.clearedAt.map (·.toNat))) ∧
  ∀ s : State,
    let seconds (t : Timer) : List Byte := two ((t.map fun due => (due - s.clock.now) / 1000).getD 0xFFFF)
    let millis (t : Timer) : List Byte := two ((t.map fun due => due - s.clock.now).getD 0xFFFF)
    let number := two ((s.book.opening.map (·.number)).getD s.book.lastNumber)
    (let r := s.statusRecord
     r.length = 14 ∧ part r 0 1 = [byteOf (openingCode s.openingState)] ∧ part r 1 2 = number ∧
     part r 3 1 = [byteOf s.motion.pair.state.code] ∧ flag r 4 0 = s.road.closureDemand ∧
     flag r 4 1 = s.roadSecured ∧ flag r 4 2 = s.wind.valid ∧ flag r 4 3 = s.motion.estop ∧ flag r 4 4 = s.attnLine ∧
     part r 5 2 = two s.wind.reading ∧ flag r 7 0 = s.site.invalid ∧ flag r 7 1 = s.site.unstored ∧
     flag r 7 2 = s.site.store.isSome ∧ flag r 7 3 = s.site.lastResult.isSome ∧
     flag r 7 4 = (s.site.lastResult == some .failed) ∧ flag r 7 5 = s.site.key ∧
     part r 8 4 = four s.clock.uptime.toNat ∧ part r 12 2 = [byteOf s.link.floor, byteOf s.slotsInUse]) ∧
    (s.passageLists = byteOf s.book.waiting.length ::
       s.book.waiting.flatMap (fun t => bytesOf16 t ++ [optByte ((s.statusOf t).map (·.code))]) ++
       byteOf s.book.clearedOrder.length :: s.book.clearedOrder.flatMap bytesOf16) ∧
    (let r := s.openingRecord
     r.length = 23 + 3 * s.members.length ∧ part r 0 1 = [byteOf (openingCode s.openingState)] ∧
     part r 1 2 = number ∧ flag r 6 2 = s.raiseDemand ∧ flag r 6 3 = s.lowerDemand ∧ flag r 6 4 = s.beam.filtered ∧
     part r 20 2 = two ((s.book.roadTimer.map fun due => (due - s.clock.now) / 1000).getD 0) ∧
     part r 22 1 = [byteOf s.members.length] ∧
     r.drop 23 = s.members.flatMap (fun t => bytesOf16 t ++ [optByte ((s.statusOf t).map (·.code))]) ∧
     ∀ o, s.book.opening = some o →
       part r 3 1 = [byteOf o.batch] ∧ part r 4 2 = two o.target ∧ flag r 6 0 = o.lastCall ∧ flag r 6 1 = o.forced ∧
       flag r 7 0 = o.joinDeadline.isSome ∧ flag r 7 1 = o.beamPassage.isSome ∧
       part r 8 4 = optFour (o.joinDeadline.map (·.toNat)) ∧
       part r 12 2 = [optByte (o.serving.map (·.code)), optByte (o.previous.map (·.code))] ∧
       part r 14 2 = seconds o.directionTimer ∧ part r 16 2 = optTwo (o.beamPassage.map (·.toNat)) ∧
       part r 18 2 = seconds o.confirmTimer) ∧
    (∀ l : LaneNo, let r := s.laneRecord l
     let x := s.lane l
     r.length = 25 ∧ part r 0 1 = [byteOf l.val] ∧ (x.present = false → part r 1 2 = [0, 0]) ∧
     (x.present = true →
       part r 1 2 = bytesOf16 s.site.working[Entry.lane l] ∧
       part r 3 4 = [byteOf x.state.code, optByte (x.subPhase.map (·.code)), byteOf x.hold.code,
         optByte (x.cause.map (·.code))] ∧
       flag r 7 2 = x.keptClosed ∧ flag r 7 3 = (x.kind != .tram) ∧
       (x.kind ≠ .tram → flag r 7 0 = (s.detector x.input1).presence ∧ flag r 7 1 = x.obstructed ∧
         part r 8 2 = two x.duration) ∧
       (x.kind = .tram → part r 10 1 = [byteOf x.count]) ∧ part r 11 2 = millis x.timer ∧
       (x.group = none → part r 13 9 = List.replicate 9 0xFF) ∧
       (∀ g, x.group = some g → let y := s.group g
         part r 13 2 = [byteOf y.state.code, if y.state = .goingDown then 1 else if y.state = .goingUp then 2 else 0] ∧
         flag r 15 0 = y.downSwitch ∧ flag r 15 1 = y.upSwitch ∧ flag r 15 2 = y.obstruction ∧
         part r 16 2 = [optByte (y.heldStroke.map (·.code)), optByte (y.cause.map (·.code))] ∧
         part r 18 4 = millis y.strokeTimer ++ millis y.clearTimer) ∧
       flag r 22 0 = s.road.closureDemand ∧ flag r 22 1 = s.roadSecured ∧
       part r 23 2 = match s.road.deck with
         | .stopped => [0xFF, 0xFF]
         | .expired => [0xFF, 0xFE]
         | .running due => two ((due - s.clock.now) / 1000))) ∧
    (∀ h : HeadNo, let r := s.headRecord h
     r.length = 3 + 4 * elementCount h ∧ part r 0 2 = [byteOf h.val, byteOf s.lamps.aspects[h].code] ∧
     flag r 2 0 = s.lamps.headFaulted h ∧ flag r 2 1 = s.lamps.phaseB ∧
     ∀ e, e < elementCount h →
       let string (standby : Bool) := s.lamps.channelOf h e standby
       let lit (standby : Bool) : Bool := (string standby).any fun c => (s.channel c).drive == .lit
       part r (3 + 4 * e) 4 = [byteOf ((s.lamps.wantedLit h e).toNat + 2 * (s.lamps.elementStatus h e).code),
         optByte ((string false).map (·.val)), optByte ((string true).map (·.val)),
         if lit false then 1 else if lit true then 2 else 0]) ∧
    (∀ c : ChannelNo, let r := s.channelRecord c
     let x := s.channel c
     r.length = 15 ∧ part r 0 1 = [byteOf c.val] ∧ part r 1 2 = bytesOf16 s.site.working[Entry.channel c] ∧
     part r 3 2 = [byteOf x.state.code, byteOf x.drive.code] ∧ flag r 5 0 = x.sense ∧
     flag r 5 1 = s.lamps.firstFailure.isSome ∧ part r 6 1 = [byteOf x.failures] ∧
     (s.lamps.underTest = some c → part r 7 2 = [1, 0xFF]) ∧
     (s.lamps.underTest ≠ some c → c ∉ s.lamps.proving → part r 7 2 = [0, 0xFF]) ∧
     (∀ before rest, s.lamps.underTest ≠ some c → s.lamps.proving = before ++ c :: rest → c ∉ before →
       part r 7 2 = [2, byteOf (before.length + 1)]) ∧
     ∀ f, s.lamps.firstFailure = some f →
       part r 9 6 = [byteOf f.channel.val, if f.stuck then 1 else 0] ++ four f.time.toNat) ∧
    (let r := s.leafSnapshot
     let p := s.motion.pair
     let d := s.motion.period
     r.length = 81 ∧ part r 0 1 = [byteOf p.state.code] ∧ part r 1 2 = optTwo p.target ∧
     part r 3 1 = [optByte (p.interrupted.map (·.code))] ∧ flag r 4 0 = p.halts.estop ∧ flag r 4 1 = p.halts.wind ∧
     flag r 4 2 = p.halts.channel ∧ flag r 4 3 = p.halts.road ∧ part r 5 2 = seconds p.channelTimer ∧
     part r 7 1 = [optByte (p.cause.map (·.code))] ∧
     part r 8 1 = [optByte (if p.state = .recovering then p.step.map (·.code) else none)] ∧
     flag r 9 0 = p.target.isSome ∧ flag r 9 1 = d.angleN.isSome ∧ flag r 9 2 = d.angleS.isSome ∧
     flag r 9 3 = d.skew.isSome ∧ flag r 9 4 = d.limits.isSome ∧ flag r 10 0 = p.skewWarning ∧
     flag r 10 1 = s.motion.estop ∧ flag r 10 2 = s.wind.valid ∧ part r 11 4 = four d.number.toNat ∧
     part r 15 4 = two d.countN ++ two d.countS ∧ part r 19 8 = optFour d.angleN ++ optFour d.angleS ∧
     part r 27 4 = optFour d.skew ∧ part r 31 1 = [optByte (d.lead.map (·.code))] ∧
     part r 32 6 = optTwo (d.limits.map (·.dist)) ++ optTwo (d.limits.map (·.wind)) ++
       optTwo (d.limits.map (·.limit)) ∧
     part r 38 4 = two d.pairDemand ++ two d.correction ∧
     part r 42 4 = two s.motion.leafN.demand ++ two s.motion.leafS.demand ∧
     (∀ (i : Side) (n : Nat), (i, n) ∈ [(Side.n, 46), (Side.s, 47)] →
       flag r n 0 = (s.leaf i).countValid ∧ flag r n 1 = (s.leaf i).seat ∧ flag r n 2 = (s.leaf i).fullOpen ∧
       flag r n 3 = ((s.leaf i).direction == .lower) ∧ flag r n 4 = s.driveEnable) ∧
     (∀ (k : LockId) (n : Nat), (k, n) ∈ [(LockId.bolt, 48), (LockId.tailN, 55), (LockId.tailS, 62)] →
       let x := s.lock k
       part r n 4 = [byteOf x.state.code, optByte (x.stroke.map (·.code)),
         if lockRequester k ∈ s.window.queue then 1 else if x.held then 2 else 0,
         byteOf (outputCode (if x.state = .stroking then x.stroke else none))] ∧
       flag r (n + 4) 0 = x.drivenSwitch ∧ flag r (n + 4) 1 = x.withdrawnSwitch ∧ part r (n + 5) 2 = millis x.timer) ∧
     (∀ (i : Side) (n : Nat), (i, n) ∈ [(Side.n, 69), (Side.s, 74)] →
       let x := s.pump i
       part r n 2 = [byteOf x.state.code,
         if pumpRequester i ∈ s.window.queue then 1 else if x.held then 2 else 0] ∧
       flag r (n + 2) 0 = x.runningInput ∧ part r (n + 3) 2 = millis x.timer) ∧
     part r 79 2 = two s.wind.reading) ∧
    (let r := s.windowRecord
     part r 0 4 = four (s.clock.now % 2 ^ 32) ∧
     part r 4 2 = [byteOf (s.cfg Entry.startLimit), byteOf (s.cfg Entry.startWindow)] ∧
     r.drop 6 = byteOf s.window.queue.length ::
       s.window.queue.flatMap (fun q => [byteOf q.val, if 8 ≤ q.val then 1 else 0]) ++
       byteOf s.window.grants.length ::
       s.window.grants.flatMap fun g => four g.stamp.toNat ++ [byteOf g.requester.val]) ∧
    ∀ e : EntryNo, let r := s.entryRecord e
      r.length = 10 ∧ part r 0 1 = [byteOf e.val] ∧ part r 1 2 = bytesOf16 s.site.working[e] ∧
      (∀ lo hi, entryRange (s.cfg Entry.angleFull) e = some (lo, hi) → part r 3 4 = two lo ++ two hi) ∧
      (entryRange (s.cfg Entry.angleFull) e = none → part r 3 4 = [0, 0, 0, 0]) ∧
      part r 7 2 = bytesOf16 SiteTable.factoryReset[e] ∧ part r 9 1 = part s.statusRecord 7 1

/-- A command that names a passage, lane, head, channel or site entry that does not exist is refused by name, and
changes nothing but the response: its body is empty. AMEND PASSAGE of no live tag is so refused, and one of a live tag
whose masked direction or class names nothing is refused NOT_PERMITTED, as is any with an ill-coded masked flag. -/
def Obligations.NamingWhatDoesNotExistIsRefused : Prop :=
  ∀ s : State, s.alive = true →
    let refused (code : Byte) : Host.Outcome State Fault Refusal :=
      .next { s with link := { s.link with response := frame code [] } }
    (∀ tag, s.passage tag = none →
      exec (.readPassage tag) s = refused 0x06 ∧ exec (.markPassing tag) s = refused 0x06 ∧
      exec (.markCleared tag) s = refused 0x06 ∧ exec (.retirePassage tag) s = refused 0x06) ∧
    (∀ (tag : Tag) (mask direction cls : Byte) (angle : BitVec 16) (ready : Byte) (allowance : BitVec 16)
       (autoRetire : Byte),
      let command := Instr.amendPassage tag mask direction cls angle ready allowance autoRetire
      let coded := (mask.getLsbD 3 = true → ready.toNat ≤ 1) ∧ (mask.getLsbD 5 = true → autoRetire.toNat ≤ 1)
      (¬coded → exec command s = refused 0x0A) ∧
      (coded → s.passage tag = none → exec command s = refused 0x06) ∧
      (coded → s.passage tag ≠ none →
        (mask.getLsbD 0 = true ∧ 1 < direction.toNat) ∨ (mask.getLsbD 1 = true ∧ 2 < cls.toNat) →
        exec command s = refused 0x0A)) ∧
    (∀ b : Byte, 11 < b.toNat → exec (.readLane b) s = refused 0x06) ∧
    (∀ b : Byte, (11 < b.toNat ∨ ∃ l : LaneNo, b.toNat = l.val ∧ (s.lane l).present = false) →
      (∀ option : Byte, option.toNat ≤ 1 → exec (.holdLane b option) s = refused 0x06) ∧
      exec (.releaseHold b) s = refused 0x06 ∧ exec (.clearLaneFault b) s = refused 0x06 ∧
      exec (.ackTramCount b) s = refused 0x06) ∧
    (∀ b : Byte, 13 < b.toNat → exec (.readHead b) s = refused 0x06 ∧ exec (.proveHead b) s = refused 0x06) ∧
    (∀ b : Byte, 47 < b.toNat →
      exec (.readChannel b) s = refused 0x06 ∧ exec (.clearLampFailure b) s = refused 0x06) ∧
    ∀ b : Byte, 109 < b.toNat →
      exec (.readSiteEntry b) s = refused 0x05 ∧ ∀ v, exec (.writeSiteEntry b v) s = refused 0x05

/-! ### Attention -/

/-- READ ATTENTION answers ACCEPTED with the pending set, the signalled set (the pending factors whose level is above
the floor), the floor and whether ATTN is asserted, and changes no state but the response buffer. -/
def Obligations.ReadAttentionGivesTheSets : Prop :=
  ∀ s : State, s.alive = true → ∃ signalled : BitVec 16,
    (∀ n : Fin 16, signalled.getLsbD n.val = true ↔
      s.link.factors.getLsbD n.val = true ∧ s.link.floor < s.cfg (Entry.level n)) ∧
    exec .readAttention s = .next { s with link := { s.link with
      response := frame 0x00 (bytesOf16 s.link.factors ++ bytesOf16 signalled ++
        [byteOf s.link.floor, if signalled = 0 then 0x00 else 0x01]) } }

/-- ACK ATTENTION takes every factor of its set out of the pending set, leaves every other, and answers the pending
set as it left it; ATTN is then asserted exactly while a factor still pending has a level above the floor. -/
def Obligations.AckAttentionClearsTheFactorsNamed : Prop :=
  ∀ (s : State) (set : BitVec 16), s.alive = true → ∃ left : BitVec 16,
    (∀ n, left.getLsbD n = (s.link.factors.getLsbD n && !set.getLsbD n)) ∧
    ∃ t, exec (.ackAttention set) s = .next t ∧
      t = { s with link := { s.link with factors := left, response := frame 0x00 (bytesOf16 left) } } ∧
      (t.attnLine = true ↔ ∃ n : Fin 16, left.getLsbD n.val = true ∧ s.link.floor < s.cfg (Entry.level n))

/-- SET ATTENTION FLOOR takes a floor of 0 to 3, with the pending set unchanged and ATTN found afresh; a value above 3
is refused NOT_PERMITTED. -/
def Obligations.SetAttentionFloorTakesTheFloor : Prop :=
  ∀ (s : State) (floor : Byte), s.alive = true →
    (floor.toNat ≤ 3 → ∃ t, exec (.setAttentionFloor floor) s = .next t ∧
      t = { s with link := { s.link with floor := floor.toNat, response := frame 0x00 [] } } ∧
      (t.attnLine = true ↔
        ∃ n : Fin 16, s.link.factors.getLsbD n.val = true ∧ floor.toNat < s.cfg (Entry.level n))) ∧
    (3 < floor.toNat →
      exec (.setAttentionFloor floor) s = .next { s with link := { s.link with response := frame 0x0A [] } })

/-- A factor, once raised, stays pending through every command and every event until an ACK ATTENTION that names it,
or a reset (a frame may carry either). -/
def Obligations.FactorsStayPendingUntilAcknowledged : Prop :=
  ∀ (c : Instr) (s t : State) (n : Nat), exec c s = .next t → mayReset c = false →
    (∀ set, c = .ackAttention set → set.getLsbD n = false) →
    s.link.factors.getLsbD n = true → t.link.factors.getLsbD n = true

/-! ### Passages -/

/-- BOOK PASSAGE is tested in the order of its table: tag, direction and class, then a tag in use, then a full book;
each refusal leaves everything but the response. BOOK PASSAGE, where no test refuses it and the passage does not join
an opening in SHIPPING, creates the record in the lowest free slot, with its angle and allowance brought into range,
and puts its tag on the waiting list: after the last PRIORITY entry for a PRIORITY passage, at the end for any other.
-/
def Obligations.BookPassageCreatesTheRecord : Prop :=
  (∀ (s : State) (tag : Tag) (direction cls : Byte) (angle : BitVec 16) (ready : Byte) (allowance : BitVec 16)
     (autoRetire : Byte), s.alive = true → ready.toNat ≤ 1 → autoRetire.toNat ≤ 1 →
     let command := Instr.bookPassage tag direction cls angle ready allowance autoRetire
     let bad := tag = 0 ∨ 1 < direction.toNat ∨ 2 < cls.toNat
     (bad → exec command s = .next (s.refuse .notPermitted)) ∧
     (¬bad → (∃ p, s.passage tag = some p) → exec command s = .next (s.refuse .duplicateTag)) ∧
     (¬bad → s.passage tag = none → (∀ i : Fin 16, s.book.slots[i] ≠ none) →
       exec command s = .next (s.refuse .bookFull))) ∧
  (∀ (s : State) (tag : Tag) (direction cls : Byte) (angle : BitVec 16) (ready : Byte) (allowance : BitVec 16)
     (autoRetire : Byte) (d : Direction) (c : PassageClass) (slot : Fin 16),
     s.alive = true → tag ≠ 0 → directionNamed direction = some d → classNamed cls = some c →
     ready.toNat ≤ 1 → autoRetire.toNat ≤ 1 → s.passage tag = none → tag ∉ s.book.waiting →
     s.book.slots[slot] = none → (∀ j : Fin 16, j < slot → s.book.slots[j] ≠ none) →
     let kept :=
       if c = .tow then s.cfg Entry.angleFull
       else max (s.cfg Entry.angleMinOpening) (min angle.toNat (s.cfg Entry.angleFull))
     let time := max 60 (min allowance.toNat 1800)
     let p : Passage :=
       { tag := tag, slot := slot, direction := d, cls := c, angle := kept, allowance := time
         autoRetire := autoRetire == 1, status := if ready = 1 then .ready else .booked, bookedAt := s.clock.uptime
         readySince := if ready = 1 then some s.clock.uptime else none, openingNumber := none, proceedAt := none
         overdue := false, clearedAt := none }
     (∀ o, s.book.opening = some o →
       ¬(o.state = .shipping ∧ ready = 1 ∧ kept ≤ o.target ∧ o.members.length < o.batch)) →
     exec (.bookPassage tag direction cls angle ready allowance autoRetire) s = .next (State.respond
       (State.finish { s with book := { s.book with
         slots := s.book.slots.set slot.val (some p) slot.isLt
         waiting :=
           if c = .priority then
             s.book.waiting.takeWhile s.isPriority ++ tag :: s.book.waiting.dropWhile s.isPriority
           else s.book.waiting ++ [tag] } })
       (if kept = angle.toNat ∧ time = allowance.toNat then .accepted else .acceptedClamped)
       ([byteOf slot.val] ++ two kept ++ two time)))

/-- A passage booked ready while an opening is in SHIPPING joins it at the tail, where its angle is not above the
target and the batch limit is not reached: its record is that of any booking, but CALLED with the opening's number,
and off the waiting list; a join that fills the list sets the last-call flag, and the response is that of any booking.
A BOOKED passage whose ready flag AMEND PASSAGE sets joins in the same way, with the fields that the amendment leaves
it, ready since the command; nothing else of the book changes. (The response gives the record as the act leaves it,
log entry 24.) -/
def Obligations.ReadyPassageJoinsAnOpeningInShipping : Prop :=
  (∀ (s : State) (tag : Tag) (direction cls : Byte) (angle allowance : BitVec 16) (autoRetire : Byte) (d : Direction)
    (c : PassageClass) (slot : Fin 16) (o : Opening),
    s.alive = true → tag ≠ 0 → directionNamed direction = some d → classNamed cls = some c →
    autoRetire.toNat ≤ 1 → s.passage tag = none → tag ∉ s.book.waiting →
    s.book.slots[slot] = none → (∀ j : Fin 16, j < slot → s.book.slots[j] ≠ none) →
    s.book.opening = some o → o.state = .shipping → o.members.length < o.batch →
    let kept :=
      if c = .tow then s.cfg Entry.angleFull
      else max (s.cfg Entry.angleMinOpening) (min angle.toNat (s.cfg Entry.angleFull))
    let time := max 60 (min allowance.toNat 1800)
    let p : Passage :=
      { tag := tag, slot := slot, direction := d, cls := c, angle := kept, allowance := time
        autoRetire := autoRetire == 1, status := .called, bookedAt := s.clock.uptime
        readySince := some s.clock.uptime, openingNumber := some o.number, proceedAt := none
        overdue := false, clearedAt := none }
    kept ≤ o.target →
    exec (.bookPassage tag direction cls angle 0x01 allowance autoRetire) s = .next (State.respond
      (State.finish { s with book := { s.book with
        slots := s.book.slots.set slot.val (some p) slot.isLt
        opening := some { o with
          members := o.members ++ [tag]
          lastCall := o.lastCall || decide (o.batch ≤ o.members.length + 1) } } })
      (if kept = angle.toNat ∧ time = allowance.toNat then .accepted else .acceptedClamped)
      ([byteOf slot.val] ++ two kept ++ two time))) ∧
  (∀ (s : State) (tag : Tag) (mask direction cls : Byte) (angle : BitVec 16) (ready : Byte) (allowance : BitVec 16)
    (autoRetire : Byte) (p : Passage) (a : Amendment) (o : Opening),
    s.alive = true → s.passage tag = some p → p.status = .booked → s.book.opening = some o → o.state = .shipping →
    o.members.length < o.batch →
    Instr.wellFormed (.amendPassage tag mask direction cls angle ready allowance autoRetire) = true →
    amendment mask direction cls angle ready allowance autoRetire = some a → a.ready = some true →
    s.amendedAngle a p ≤ o.target →
    let clamped := (∃ g, a.angle = some g ∧ s.keptAngle (a.cls.getD p.cls) g ≠ g) ∨
      ∃ g, a.allowance = some g ∧ max 60 (min g 1800) ≠ g
    ∃ (u : State) (r : Result),
      exec (.amendPassage tag mask direction cls angle ready allowance autoRetire) s =
        .next (u.finish.respond r ((u.finish.passage tag).getD p).amendBody) ∧
      (clamped → r = .acceptedClamped) ∧ (¬clamped → r = .accepted) ∧
      { u with book := s.book } = s ∧ (∀ t, t ≠ tag → u.passage t = s.passage t) ∧
      { u.book with slots := s.book.slots, waiting := s.book.waiting, opening := s.book.opening } = s.book ∧
      u.book.waiting = s.book.waiting.filter (· ≠ tag) ∧
      u.book.opening = some { o with
        members := o.members ++ [tag]
        lastCall := o.lastCall || decide (o.batch ≤ o.members.length + 1) } ∧
      u.passage tag = some { p with
        direction := a.direction.getD p.direction
        cls := a.cls.getD p.cls
        angle := s.amendedAngle a p
        allowance := (a.allowance.map fun g => max 60 (min g 1800)).getD p.allowance
        autoRetire := a.autoRetire.getD p.autoRetire
        status := .called
        readySince := some s.clock.uptime
        openingNumber := some o.number })

/-- AMEND PASSAGE of a passage in BOOKED or READY writes the masked fields: the required angle as R7 keeps it for the
class after the command, ANGLE_FULL for a class changed to TOW, and ready with its stamp, which a value already held
does not stamp afresh. A class that crosses to PRIORITY takes the tag behind the last PRIORITY entry of the waiting
list, one that crosses from it takes it to the end; any other amendment leaves the list. Tag, slot, booked-at, opening
number, overdue and every other passage stay. (Where the amendment makes the passage READY for an opening in SHIPPING
that has room for it, it joins: that is another statement.) -/
def Obligations.AmendWritesTheMaskedFieldsOfAWaitingPassage : Prop :=
  ∀ (s : State) (tag : Tag) (mask direction cls : Byte) (angle : BitVec 16) (ready : Byte) (allowance : BitVec 16)
    (autoRetire : Byte) (p : Passage) (d : Direction) (c : PassageClass),
    s.alive = true → s.passage tag = some p → (p.status = .booked ∨ p.status = .ready) →
    (mask.getLsbD 0 = true → directionNamed direction = some d) → (mask.getLsbD 1 = true → classNamed cls = some c) →
    (mask.getLsbD 3 = true → ready.toNat ≤ 1) → (mask.getLsbD 5 = true → autoRetire.toNat ≤ 1) →
    let cls' := if mask.getLsbD 1 then c else p.cls
    let kept (g : Nat) : Nat :=
      if cls' = .tow then s.cfg Entry.angleFull
      else max (s.cfg Entry.angleMinOpening) (min g (s.cfg Entry.angleFull))
    let angle' :=
      if mask.getLsbD 2 then kept angle.toNat
      else if cls' = .tow ∧ p.cls ≠ .tow then s.cfg Entry.angleFull
      else p.angle
    let ready' := if mask.getLsbD 3 then ready == 1 else p.status == .ready
    let allowance' := if mask.getLsbD 4 then max 60 (min allowance.toNat 1800) else p.allowance
    let clamped := (mask.getLsbD 2 = true ∧ kept angle.toNat ≠ angle.toNat) ∨
      (mask.getLsbD 4 = true ∧ allowance' ≠ allowance.toNat)
    (∀ o, s.book.opening = some o → ¬(o.state = .shipping ∧ p.status = .booked ∧ ready' = true ∧
      angle' ≤ o.target ∧ o.members.length < o.batch)) →
    ∃ u : State,
      exec (.amendPassage tag mask direction cls angle ready allowance autoRetire) s = .next (u.finish.respond
        (if clamped then .acceptedClamped else .accepted) ((u.finish.passage tag).getD p).amendBody) ∧
      { u with book := s.book } = s ∧
      { u.book with slots := s.book.slots, waiting := s.book.waiting } = s.book ∧
      u.passage tag = some { p with
        direction := if mask.getLsbD 0 then d else p.direction
        cls := cls'
        angle := angle'
        allowance := allowance'
        autoRetire := if mask.getLsbD 5 then autoRetire == 1 else p.autoRetire
        status := if ready' then .ready else .booked
        readySince :=
          if ready' = (p.status == .ready) then p.readySince else if ready' then some s.clock.uptime else none } ∧
      (∀ t, t ≠ tag → u.passage t = s.passage t) ∧
      (((cls' = .priority) ↔ (p.cls = .priority)) → u.book.waiting = s.book.waiting) ∧
      let others := s.book.waiting.filter (· ≠ tag)
      (cls' = .priority → p.cls ≠ .priority →
        u.book.waiting = others.takeWhile s.isPriority ++ tag :: others.dropWhile s.isPriority) ∧
      (cls' ≠ .priority → p.cls = .priority → u.book.waiting = others ++ [tag])

/-- AMEND PASSAGE of a CALLED member takes it out of its opening exactly when its direction has changed, its angle is
now above the target or its ready flag is now clear: it leaves the member list, has no opening number and is READY or
BOOKED, and the result is ACCEPTED_LEFT_OPENING. It stands at the head of its section of the waiting list, before the
PRIORITY entries or behind them by the class it has now; but READY, with an opening in SHIPPING that has room and a
target as high, it joins again at the tail. A member that is not taken out keeps its place. (The response gives the
record as the act leaves it, log entry 24; that it joins before the opening can find its list empty is log entry 29.) -/
def Obligations.AmendTakesAMemberOutOfItsOpening : Prop :=
  ∀ (s : State) (tag : Tag) (mask direction cls : Byte) (angle : BitVec 16) (ready : Byte) (allowance : BitVec 16)
    (autoRetire : Byte) (p : Passage) (a : Amendment) (o : Opening),
    s.alive = true → s.passage tag = some p → p.status = .called → s.book.opening = some o →
    Instr.wellFormed (.amendPassage tag mask direction cls angle ready allowance autoRetire) = true →
    amendment mask direction cls angle ready allowance autoRetire = some a →
    let ready' := a.ready.getD true
    let cls' := a.cls.getD p.cls
    let left := a.direction.getD p.direction ≠ p.direction ∨ o.target < s.amendedAngle a p ∨ ready' = false
    let others := o.members.filter (· ≠ tag)
    let joins := o.state = .shipping ∧ ready' = true ∧ s.amendedAngle a p ≤ o.target ∧ others.length < o.batch
    let ahead (t : Tag) : Bool := if t = tag then cls' == .priority else s.isPriority t
    let waiting := s.book.waiting
    let clamped := (∃ g, a.angle = some g ∧ s.keptAngle cls' g ≠ g) ∨
      ∃ g, a.allowance = some g ∧ max 60 (min g 1800) ≠ g
    ∃ (u : State) (r : Result) (q : Passage),
      exec (.amendPassage tag mask direction cls angle ready allowance autoRetire) s =
        .next (u.finish.respond r ((u.finish.passage tag).getD p).amendBody) ∧
      { u with book := s.book } = s ∧ (∀ t, t ≠ tag → u.passage t = s.passage t) ∧
      { u.book with slots := s.book.slots, waiting := s.book.waiting, opening := s.book.opening } = s.book ∧
      u.passage tag = some q ∧
      { q with status := p.status, readySince := p.readySince, openingNumber := p.openingNumber
               proceedAt := p.proceedAt } =
        { p with
          direction := a.direction.getD p.direction
          cls := cls'
          angle := s.amendedAngle a p
          allowance := (a.allowance.map fun g => max 60 (min g 1800)).getD p.allowance
          autoRetire := a.autoRetire.getD p.autoRetire } ∧
      (left → r = .acceptedLeftOpening ∧ q.readySince = (if ready' then p.readySince else none) ∧
        q.proceedAt = none ∧
        (¬joins → q.status = (if ready' then .ready else .booked) ∧ q.openingNumber = none ∧
          u.book.opening = some { o with members := others } ∧
          u.book.waiting =
            if cls' = .priority then tag :: waiting
            else waiting.takeWhile ahead ++ tag :: waiting.dropWhile ahead) ∧
        (joins → q.status = .called ∧ q.openingNumber = some o.number ∧
          u.book.opening = some { o with
            members := others ++ [tag]
            lastCall := o.lastCall || decide (o.batch ≤ others.length + 1) } ∧
          u.book.waiting = waiting.filter (· ≠ tag))) ∧
      (¬left → (clamped → r = .acceptedClamped) ∧ (¬clamped → r = .accepted) ∧ u.book.opening = some o ∧
        u.book.waiting = waiting ∧ q.status = .called ∧ q.openingNumber = p.openingNumber ∧
        q.readySince = p.readySince ∧ q.proceedAt = p.proceedAt)

/-- AMEND PASSAGE of a passage under way writes allowance and auto-retire alone: in PROCEED or PASSING any other masked
field is refused IN_TRANSIT, and the rest of the record stays. The result is ACCEPTED_CLAMPED where the allowance given
is not the one kept, else ACCEPTED. A new allowance is tested for overdue in the act: the flag becomes set, and
PASSAGE_OVERDUE is raised exactly where it was clear; a flag that is set stays. In CLEARED anything but auto-retire is
refused NOT_PERMITTED; auto-retire set retires the record at once, off every list; auto-retire clear is stored; and a
mask that names no field changes nothing; each is ACCEPTED. No other passage and nothing else of the book changes. (The
response gives the record as the act leaves it, or the last that it held, log entry 24.) -/
def Obligations.AmendOfAPassageUnderWay : Prop :=
  ∀ (s : State) (tag : Tag) (mask direction cls : Byte) (angle : BitVec 16) (ready : Byte) (allowance : BitVec 16)
    (autoRetire : Byte) (p : Passage) (a : Amendment),
    s.alive = true → s.passage tag = some p →
    Instr.wellFormed (.amendPassage tag mask direction cls angle ready allowance autoRetire) = true →
    amendment mask direction cls angle ready allowance autoRetire = some a →
    let command := Instr.amendPassage tag mask direction cls angle ready allowance autoRetire
    let answers (u : State) (r : Result) : Prop :=
      exec command s = .next (u.finish.respond r ((u.finish.passage tag).getD p).amendBody)
    let moves := a.direction ≠ none ∨ a.cls ≠ none ∨ a.angle ≠ none ∨ a.ready ≠ none
    let kept := (a.allowance.map fun g => max 60 (min g 1800)).getD p.allowance
    let clamped := ∃ g, a.allowance = some g ∧ max 60 (min g 1800) ≠ g
    let late := a.allowance ≠ none ∧ ∃ x, p.proceedAt = some x ∧ kept < (s.clock.uptime - x).toNat
    let others (u : State) : Prop := ∀ t, t ≠ tag → u.passage t = s.passage t
    ((p.status = .proceed ∨ p.status = .passing) → moves → exec command s = .next (s.refuse .inTransit)) ∧
    ((p.status = .proceed ∨ p.status = .passing) → ¬moves →
      ∃ (u : State) (r : Result) (overdue : Bool), answers u r ∧
        (clamped → r = .acceptedClamped) ∧ (¬clamped → r = .accepted) ∧
        (overdue = true ↔ p.overdue = true ∨ late) ∧
        u.passage tag = some { p with
          allowance := kept, autoRetire := a.autoRetire.getD p.autoRetire, overdue := overdue } ∧
        others u ∧ { u.book with slots := s.book.slots } = s.book ∧ { u with book := s.book, link := s.link } = s ∧
        { u.link with factors := s.link.factors } = s.link ∧
        (∀ k, k ≠ 2 → u.link.factors.getLsbD k = s.link.factors.getLsbD k) ∧
        (u.link.factors.getLsbD 2 = true ↔ s.link.factors.getLsbD 2 = true ∨ (p.overdue = false ∧ late))) ∧
    (p.status = .cleared → (moves ∨ a.allowance ≠ none) → exec command s = .next (s.refuse .notPermitted)) ∧
    (p.status = .cleared → ¬moves → a.allowance = none → a.autoRetire = some true →
      ∃ u : State, answers u .accepted ∧ u.passage tag = none ∧ others u ∧ { u with book := s.book } = s ∧
        u.book.waiting = s.book.waiting.filter (· ≠ tag) ∧
        u.book.clearedOrder = s.book.clearedOrder.filter (· ≠ tag) ∧
        { u.book with
          slots := s.book.slots, waiting := s.book.waiting, clearedOrder := s.book.clearedOrder } = s.book) ∧
    (p.status = .cleared → ¬moves → a.allowance = none → a.autoRetire ≠ some true →
      ∃ u : State, answers u .accepted ∧
        u.passage tag = some { p with autoRetire := a.autoRetire.getD p.autoRetire } ∧ others u ∧
        { u with book := s.book } = s ∧ { u.book with slots := s.book.slots } = s.book)


/-- MARK PASSING takes a passage in PROCEED to PASSING and nothing else of its record; in any other status it is refused
NOT_PERMITTED. A passage in PASSING enters CLEARED by MARK CLEARED: cleared-at is stamped, it leaves the member list,
its service ends with the direction-change timer started, and with auto-retire its record is gone; in any other
status the command is refused NOT_PERMITTED. RETIRE PASSAGE discards the record and takes its tag off every list; a
member in PROCEED also ends its service; a passage in PASSING is refused IN_TRANSIT. Every other passage stays, and
so does the opening's target. -/
def Obligations.MarkAndRetireCommandsMoveThePassage : Prop :=
  ((∀ (s : State) (tag : Tag) (p : Passage), s.alive = true → s.passage tag = some p →
     (p.status = .proceed → ∃ u : State, exec (.markPassing tag) s = .next (u.finish.accept) ∧
       { u with book := s.book } = s ∧ { u.book with slots := s.book.slots } = s.book ∧
       u.passage tag = some { p with status := .passing } ∧ ∀ t, t ≠ tag → u.passage t = s.passage t) ∧
     (p.status ≠ .proceed → exec (.markPassing tag) s = .next (s.refuse .notPermitted))) ∧
  (∀ (s : State) (tag : Tag) (p : Passage), s.alive = true → s.passage tag = some p →
     (p.status = .passing → ∃ u : State, exec (.markCleared tag) s = .next (u.finish.accept) ∧
       { u with book := s.book } = s ∧ (∀ t, t ≠ tag → u.passage t = s.passage t) ∧
       (p.autoRetire = false →
         u.passage tag = some { p with status := .cleared, clearedAt := some s.clock.uptime } ∧
         u.book.clearedOrder = s.book.clearedOrder ++ [tag] ∧ u.book.waiting = s.book.waiting) ∧
       (p.autoRetire = true →
         u.passage tag = none ∧ u.book.clearedOrder = s.book.clearedOrder.filter (· ≠ tag) ∧
         u.book.waiting = s.book.waiting.filter (· ≠ tag)) ∧
       u.book.opening = s.book.opening.map fun o =>
         { o with
           members := o.members.filter (· ≠ tag)
           previous := o.serving
           serving := none
           directionTimer := some (s.clock.now + 1000 * s.cfg Entry.directionChange)
           beamPassage := if o.beamPassage = some tag then none else o.beamPassage
           confirmTimer := if o.beamPassage = some tag then none else o.confirmTimer }) ∧
     (p.status ≠ .passing → exec (.markCleared tag) s = .next (s.refuse .notPermitted)))) ∧
  (∀ (s : State) (tag : Tag) (p : Passage), s.alive = true → s.passage tag = some p →
    (p.status = .passing → exec (.retirePassage tag) s = .next (s.refuse .inTransit)) ∧
    (p.status ≠ .passing → ∃ u : State, exec (.retirePassage tag) s = .next (u.finish.accept) ∧
      { u with book := s.book } = s ∧ u.passage tag = none ∧ (∀ t, t ≠ tag → u.passage t = s.passage t) ∧
      u.book.waiting = s.book.waiting.filter (· ≠ tag) ∧
      u.book.clearedOrder = s.book.clearedOrder.filter (· ≠ tag) ∧
      u.book.opening = s.book.opening.map fun o => match p.status with
        | .called => { o with members := o.members.filter (· ≠ tag) }
        | .proceed =>
          { o with
            members := o.members.filter (· ≠ tag)
            previous := o.serving
            serving := none
            directionTimer := some (s.clock.now + 1000 * s.cfg Entry.directionChange) }
        | _ => o))

/-- The up-time advances by one second, from its last value to 0, and at the advance every passage in PROCEED or PASSING
whose time since proceed-at is now above its allowance is overdue; PASSAGE_OVERDUE is raised for a flag that was
clear. The event PASSAGE_OVERDUE of a tag is that test for one passage. The timers of the book run out: the road
interval and the direction change are then stopped, and the clear-confirm timer makes its beam passage CLEARED with
the end of its service, as MARK CLEARED does. The clock stands at the moment of the expiry. -/
def Obligations.UptimeAndBookTimersRunOut : Prop :=
  (∀ s : State, s.alive = true →
    let late (now : Seconds) (p : Passage) : Bool :=
      (p.status == .proceed || p.status == .passing) && p.proceedAt.any fun x => decide (p.allowance < (now - x).toNat)
    (∃ u : State, exec .uptimeAdvance s = .next u.finish ∧
      u.clock = { now := max s.clock.now s.clock.uptimeDue, uptime := s.clock.uptime + 1
                  uptimeDue := s.clock.uptimeDue + 1000 } ∧
      { u with clock := s.clock, book := s.book, link := s.link } = s ∧
      { u.book with slots := s.book.slots } = s.book ∧
      (∀ tag, u.passage tag =
        (s.passage tag).map fun p => { p with overdue := p.overdue || late (s.clock.uptime + 1) p }) ∧
      ((∃ tag p, s.passage tag = some p ∧ p.overdue = false ∧ late (s.clock.uptime + 1) p = true) →
        u.link.factors.getLsbD 2 = true)) ∧
    ∀ tag p, s.passage tag = some p → late s.clock.uptime p = true → p.overdue = false →
      ∃ u : State, exec (.passageOverdue tag) s = .next u ∧ u.passage tag = some { p with overdue := true } ∧
        u.link = { s.link with factors := s.link.factors ||| 0x0004 } ∧
        { u with book := s.book, link := s.link } = s ∧ ∀ t, t ≠ tag → u.passage t = s.passage t) ∧
  (∀ (s : State) (due : Nat), s.alive = true →
    let now := max s.clock.now due
    let at' (u : State) : State := { u with clock := { s.clock with now := now } }
    (s.book.roadTimer = some due → exec .roadIntervalExpiry s =
      .next (State.finish (at' { s with book := { s.book with roadTimer := none } }))) ∧
    ∀ o, s.book.opening = some o →
      (o.directionTimer = some due → exec .directionChangeExpiry s =
        .next (State.finish (at' { s with book := { s.book with
          opening := some { o with directionTimer := none } } }))) ∧
      ∀ (t : Tag) (p : Passage), o.confirmTimer = some due → o.beamPassage = some t → s.passage t = some p →
        p.status = .passing → ∃ u : State, exec .clearConfirmExpiry s = .next u.finish ∧
          { u with book := s.book } = at' s ∧ (∀ t', t' ≠ t → u.passage t' = s.passage t') ∧
          (p.autoRetire = false →
            u.passage t = some { p with status := .cleared, clearedAt := some s.clock.uptime } ∧
            u.book.clearedOrder = s.book.clearedOrder ++ [t]) ∧
          (p.autoRetire = true → u.passage t = none) ∧
          u.book.opening = some { o with
            members := o.members.filter (· ≠ t)
            previous := o.serving
            serving := none
            directionTimer := some (now + 1000 * s.cfg Entry.directionChange)
            beamPassage := none
            confirmTimer := none })

/-! ### The opening and the span beam -/

/-- CALL OPENING, and the automatic call, form the opening: the next number, the first READY passages of the waiting
list up to BATCH_LIMIT with those of the first one's direction first, CALLED and off the list, the largest of their
angles as the target, the last-call flag set by a full list. -/
def Obligations.ACallFormsTheOpening : Prop :=
  ∀ s : State, s.alive = true → s.book.opening = none → s.site.invalid = false → s.motion.pair.state = .locked →
    (s.book.waiting.filter fun t => s.statusOf t == some .ready) ≠ [] →
    let number := if s.book.lastNumber = 65535 then 1 else s.book.lastNumber + 1
    let taken := (s.book.waiting.filter fun t => s.statusOf t == some .ready).take (s.cfg Entry.batchLimit)
    let first := taken.head?.bind s.directionOf
    let members :=
      taken.filter (fun t => s.directionOf t == first) ++ taken.filter fun t => s.directionOf t != first
    ∃ (u : State) (o : Opening),
      exec .callOpening s =
        .next (u.finish.respond .accepted (two number ++ [byteOf members.length])) ∧
      (s.mayCall = true → exec .automaticCall s = .next u.finish) ∧
      { u with book := s.book, link := s.link } = s ∧
      u.link = { s.link with factors := s.link.factors ||| 0x0001 } ∧
      u.book.waiting = s.book.waiting.filter (fun t => t ∉ members) ∧ u.book.lastNumber = number ∧
      u.book.opening = some o ∧ o.number = number ∧ o.state = .called ∧ o.batch = s.cfg Entry.batchLimit ∧
      o.members = members ∧ (o.lastCall = true ↔ s.cfg Entry.batchLimit ≤ members.length) ∧
      (∀ t ∈ members, ∀ p, s.passage t = some p → p.angle ≤ o.target) ∧
      (o.target = 0 ∨ ∃ t ∈ members, ∃ p, s.passage t = some p ∧ o.target = p.angle) ∧
      o.joinDeadline = none ∧ o.serving = none ∧ o.previous = none ∧ o.beamPassage = none ∧
      o.directionTimer = none ∧ o.confirmTimer = none ∧ o.forced = false ∧
      ∀ t, u.passage t = (s.passage t).map fun p =>
        if t ∈ members then { p with status := .called, openingNumber := some number } else p

/-- CALL OPENING, DECLARE LAST CALL and ABORT OPENING are refused in the order of their rules, with nothing changed
but the response. DECLARE LAST CALL sets the last-call flag of an opening that is not yet lowering, and so does the
join deadline when the up-time has reached it; nothing else changes of itself. -/
def Obligations.LastCallIsSetAndRefusalsKeepTheirOrder : Prop :=
  (∀ s : State, s.alive = true →
     (s.book.opening ≠ none → exec .callOpening s = .next (s.refuse .busy)) ∧
     (s.book.opening = none → s.site.invalid = true ∨ s.motion.pair.state ≠ .locked ∨ s.readyTags = [] →
       exec .callOpening s = .next (s.refuse .notPermitted)) ∧
     (s.book.opening = none → exec .declareLastCall s = .next (s.refuse .notPermitted) ∧
       exec .abortOpening s = .next (s.refuse .notPermitted)) ∧
     ∀ o, s.book.opening = some o →
       (o.state = .lowering ∨ o.state = .releasing → exec .declareLastCall s = .next (s.refuse .busy) ∧
         exec .abortOpening s = .next (s.refuse .busy)) ∧
       (o.state = .raising ∨ o.state = .shipping ∨ o.state = .lastCall →
         (∃ t ∈ o.members, s.statusOf t = some .passing) → exec .abortOpening s = .next (s.refuse .inTransit))) ∧
  (∀ (s : State) (o : Opening), s.alive = true → s.book.opening = some o →
     let u := { s with book := { s.book with opening := some { o with lastCall := true } } }
     ((o.state = .called ∨ o.state = .raising ∨ o.state = .shipping ∨ o.state = .lastCall) →
       exec .declareLastCall s = .next (State.accept (State.finish u))) ∧
     (∀ d, o.joinDeadline = some d → o.lastCall = false → (s.clock.uptime - d).toNat < 2 ^ 31 →
       exec .joinDeadline s = .next (State.finish u)))

/-- ABORT OPENING returns the members in CALLED and PROCEED: READY again with no opening number, at the heads of their
sections of the waiting list in member order, and the direction in service is absent once a member in PROCEED has
returned; an opening in CALLED then enters RELEASING, one in RAISING, SHIPPING or LAST_CALL enters LOWERING with its
last-call flag set. OPENING_STATE is raised. Nothing else of the opening or of the book changes. -/
def Obligations.AbortReturnsTheMembers : Prop :=
  ∀ (s : State) (o : Opening), s.alive = true → s.book.opening = some o →
    (o.state = .called ∨ ((o.state = .raising ∨ o.state = .shipping ∨ o.state = .lastCall) ∧
      ∀ t ∈ o.members, s.statusOf t ≠ some .passing)) →
    let back := o.members.filter fun t => s.statusOf t == some .called || s.statusOf t == some .proceed
    ∃ u : State, exec .abortOpening s = .next (u.finish.accept) ∧
      { u with book := s.book, link := s.link } = s ∧
      u.link = { s.link with factors := s.link.factors ||| 0x0001 } ∧
      { u.book with slots := s.book.slots, waiting := s.book.waiting, opening := s.book.opening } = s.book ∧
      (∀ t, u.passage t = (s.passage t).map fun p =>
        if t ∈ back then { p with status := .ready, openingNumber := none, proceedAt := none } else p) ∧
      u.book.waiting = back.filter s.isPriority ++ s.book.waiting.takeWhile s.isPriority
        ++ back.filter (fun t => !s.isPriority t) ++ s.book.waiting.dropWhile s.isPriority ∧
      u.book.opening = some { o with
        state := if o.state = .called then .releasing else .lowering
        lastCall := if o.state = .called then o.lastCall else true
        directionTimer := none
        members := o.members.filter (fun t => t ∉ back)
        serving := if o.members.any fun t => s.statusOf t == some .proceed then none else o.serving }


/-- The head member, CALLED in an opening in SHIPPING or LAST_CALL, is given PROCEED once the pair is OPEN, the E-stop
released, both greens of its direction's head not DARK, and the direction-change timer stopped or its direction that
of the service before: proceed-at is stamped, its direction is in service, the join deadline is set where it was
absent, and PASSAGE_SIGNALLED is raised. While one of these does not hold the event does nothing (log entry 5). -/
def Obligations.ProceedIsGivenToTheHeadMember : Prop :=
  ∀ (s : State) (o : Opening) (t : Tag) (rest : List Tag) (p : Passage), s.alive = true → s.book.opening = some o →
    o.members = t :: rest → s.passage t = some p →
    let may := p.status = .called ∧ (o.state = .shipping ∨ o.state = .lastCall) ∧ s.motion.pair.state = .isOpen ∧
      s.motion.estop = false ∧ s.greensProven p.direction = true ∧
      (o.directionTimer = none ∨ o.previous = some p.direction)
    (¬may → exec .passageProceed s = .next s) ∧
    (may → ∃ u : State, exec .passageProceed s = .next u.finish ∧
      { u with book := s.book, link := s.link } = s ∧
      u.link = { s.link with factors := s.link.factors ||| 0x0002 } ∧
      { u.book with slots := s.book.slots, opening := s.book.opening } = s.book ∧
      u.passage t = some { p with status := .proceed, proceedAt := some s.clock.uptime } ∧
      (∀ t', t' ≠ t → u.passage t' = s.passage t') ∧
      u.book.opening = some { o with
        serving := some p.direction
        joinDeadline := match o.joinDeadline with
          | some d => some d
          | none => some (s.clock.uptime + BitVec.ofNat 32 (s.cfg Entry.joinWindow)) })

/-- What the opening does of itself in an act, each step an act's reaction. With none, the automatic call on the
conditions of R24. A pair in FAULT forces it: members return, and it enters LOWERING with last call, or RELEASING out
of CALLED. Else a member in PROCEED with the E-stop active or the pair not OPEN goes back to CALLED; else the join
deadline, once reached, sets last call; else its state goes on: CALLED by the road secured, RAISING by the pair OPEN,
SHIPPING by last call, LAST_CALL by an empty list, LOWERING by the pair LOCKED, RELEASING by the lanes back and an
empty list to its removal (whatever the pair state, log entry 43), an empty list giving it up before; else the head
member is given PROCEED. -/
def Obligations.TheOpeningGoesThroughItsStates : Prop :=
  (∀ s : State, s.book.opening = none →
    let ready := s.book.waiting.filter fun t => s.statusOf t == some .ready
    let waits := (∃ t ∈ ready, s.isPriority t = true) ∨ s.cfg Entry.callLevel ≤ ready.length ∨
      ∃ t ∈ ready, ∃ p r, s.passage t = some p ∧ p.readySince = some r ∧
        s.cfg Entry.maxWait ≤ (s.clock.uptime - r).toNat
    let calls := s.book.roadTimer = none ∧ s.site.invalid = false ∧ s.motion.pair.state = .locked ∧
      s.wind.valid = true ∧ s.wind.reading < s.cfg Entry.windStart ∧ waits
    (calls → openingReaction s = some s.callOpening) ∧ (¬calls → openingReaction s = none)) ∧
  ∀ (s : State) (o : Opening), s.book.opening = some o →
    let factors := { s.link with factors := s.link.factors ||| 0x0001 }
    let enters (st : OpeningState) (o : Opening) : Option State := some { s with
      book := { s.book with opening := some { o with
        state := st, directionTimer := if st = .lowering ∨ st = .releasing then none else o.directionTimer } }
      link := factors }
    let flagged (o : Opening) : Option State := some { s with book := { s.book with opening := some o } }
    let faulty := s.motion.pair.state = .fault
    let calm := ¬faulty ∨ o.state = .releasing ∨ (o.state = .lowering ∧ o.forced = true)
    let falls := s.motion.estop = true ∨ s.motion.pair.state ≠ .isOpen
    let stays := calm ∧ (falls → s.memberIn .proceed = none)
    let due := o.lastCall = false ∧ ∃ d, o.joinDeadline = some d ∧ (s.clock.uptime - d).toNat < 2 ^ 31
    let back := o.members.filter fun t => s.statusOf t == some .called || s.statusOf t == some .proceed
    (faulty → o.state ≠ .lowering → o.state ≠ .releasing → ∃ u : State, openingReaction s = some u ∧
      { u with book := s.book, link := s.link } = s ∧ u.link = factors ∧
      { u.book with slots := s.book.slots, waiting := s.book.waiting, opening := s.book.opening } = s.book ∧
      (∀ t, u.passage t = (s.passage t).map fun p =>
        if t ∈ back then { p with status := .ready, openingNumber := none, proceedAt := none } else p) ∧
      u.book.waiting = back.filter s.isPriority ++ s.book.waiting.takeWhile s.isPriority
        ++ back.filter (fun t => !s.isPriority t) ++ s.book.waiting.dropWhile s.isPriority ∧
      u.book.opening = some { o with
        state := if o.state = .called then .releasing else .lowering
        lastCall := if o.state = .called then o.lastCall else true
        forced := true
        directionTimer := none
        members := o.members.filter (fun t => t ∉ back)
        serving := if o.members.any fun t => s.statusOf t == some .proceed then none else o.serving }) ∧
    (faulty → o.state = .lowering → o.forced = false → openingReaction s = flagged { o with forced := true }) ∧
    (calm → falls → ∀ t, s.memberIn .proceed = some t → ∃ u : State, openingReaction s = some u ∧
      { u with book := s.book } = s ∧ { u.book with slots := s.book.slots, opening := s.book.opening } = s.book ∧
      u.book.opening = some { o with serving := none } ∧
      ∀ t', u.passage t' = (s.passage t').map fun p =>
        if t' = t then { p with status := .called, proceedAt := none } else p) ∧
    (stays → due → openingReaction s = flagged { o with lastCall := true }) ∧
    (stays → ¬due →
      (o.state = .called →
        (o.members = [] → openingReaction s = enters .releasing o) ∧
        (o.members ≠ [] → (∀ l, (s.lane l).present = true → ((s.lane l).state = .closed ∨ (s.lane l).state = .held) ∧
            ((s.lane l).kind = .tram → (s.lane l).count = 0)) →
          openingReaction s = enters .raising o)) ∧
      (o.state = .raising →
        (o.members = [] → openingReaction s = enters .lowering { o with lastCall := true }) ∧
        (o.members ≠ [] → s.motion.pair.state = .isOpen →
          openingReaction s = enters (if o.lastCall then .lastCall else .shipping) o)) ∧
      (o.state = .shipping →
        (o.lastCall = true → openingReaction s = enters .lastCall o) ∧
        (o.lastCall = false → o.members = [] → o.joinDeadline = none →
          openingReaction s = flagged { o with lastCall := true })) ∧
      (o.state = .lastCall → o.members = [] → openingReaction s = enters .lowering o) ∧
      (o.state = .lowering → s.motion.pair.state = .locked → openingReaction s = enters .releasing o) ∧
      (o.state = .releasing → o.members = [] →
        (∀ l, (s.lane l).present = true →
          (s.lane l).state = .isOpen ∨ (s.lane l).state = .held ∨ (s.lane l).state = .fault) →
        openingReaction s = some { s with
          book := { s.book with
            opening := none, roadTimer := some (s.clock.now + 1000 * s.cfg Entry.roadInterval) }
          link := factors }) ∧
      (stateReaction s o = none → openingReaction s = if s.mayProceed then some s.giveProceed else none))

/-- The span beam's filter: a raw change starts its 500 ms anew (it does not run while the raw input shows the
filtered level, log entry 33); a change of nothing changes nothing (log entry 5). Its turn to INTERRUPTED moves a
member in PROCEED to PASSING and makes it the beam passage, makes a member already in PASSING the beam passage, and
raises CHANNEL_ALERT with neither; its turn to CLEAR starts the clear-confirm timer of a beam passage in PASSING and
the channel-clear timer where CHANNEL halts the pair. -/
def Obligations.SpanBeamIsFilteredAndActsOnItsTurns : Prop :=
  ∀ s : State, s.alive = true →
    (∀ b, exec (.spanBeamInputChange b) s = .next
      (if s.beam.raw = b then s
       else { s with beam := { s.beam with
         raw := b
         timer := if b = s.beam.filtered then none else some (s.clock.now + 500) } })) ∧
    ∀ due, s.beam.timer = some due →
      let now := max s.clock.now due
      (s.beam.raw = true → s.beam.filtered = false → ∃ u : State, exec .spanBeamInterrupted s = .next u.finish ∧
        u.beam = { raw := true, filtered := true, timer := none } ∧ u.clock = { s.clock with now := now } ∧
        u.motion = { s.motion with pair := { s.motion.pair with channelTimer := none } } ∧
        { u with beam := s.beam, clock := s.clock, motion := s.motion, book := s.book, link := s.link } = s ∧
        (∀ t, s.memberIn .proceed = some t → u.link = s.link ∧
          u.passage t = (s.passage t).map (fun p => { p with status := .passing }) ∧
          (∀ t', t' ≠ t → u.passage t' = s.passage t') ∧
          u.book.opening = s.book.opening.map fun o => { o with beamPassage := some t, confirmTimer := none }) ∧
        (∀ t, s.memberIn .proceed = none → s.memberIn .passing = some t → u.link = s.link ∧
          u.book = { s.book with
            opening := s.book.opening.map fun o => { o with beamPassage := some t, confirmTimer := none } }) ∧
        (s.memberIn .proceed = none → s.memberIn .passing = none →
          u.book = s.book ∧ u.link = { s.link with factors := s.link.factors ||| 0x0008 })) ∧
      (s.beam.raw = false → s.beam.filtered = true →
        let timer := some (now + 1000 * s.cfg Entry.clearConfirm)
        exec .spanBeamClear s = .next (State.finish { s with
          clock := { s.clock with now := now }
          beam := { raw := false, filtered := false, timer := none }
          book := { s.book with opening := s.book.opening.map fun o =>
            if (o.beamPassage.any fun t => s.statusOf t == some .passing) then { o with confirmTimer := timer } else o }
          motion := { s.motion with pair := { s.motion.pair with
            channelTimer := if s.motion.pair.halts.channel then timer else s.motion.pair.channelTimer } } }))

/-! ### Lanes -/

/-- HOLD LANE puts the hold on every present lane of the named lane's group, or on the lane alone without one:
HOLD_DOWN with the option, HOLD where there was none without it, and a HOLD_DOWN is not lowered. A CLOSED lane enters
HELD; a lane in RELEASING turns back by its group's state, to HELD or SECURING, its stroke up unasked
(AWAIT_GRANT_DOWN and GOING_DOWN are log entry 17); any other changes in its hold alone. RELEASE HOLD takes a plain
hold off the group's lanes: a HELD lane enters CLOSED under a closure demand, else RELEASING, or OPEN without a group;
a lane in any other state keeps it under a demand, and without one gives its closing up by its state and its group's
(DOWN, AWAIT_GRANT_UP, GOING_UP and FAULT are log entry 18). HOLD_DOWN is refused HELD_DOWN, no hold NOT_PERMITTED.
RELEASE ROAD, taken only with no closure demand and the pair LOCKED, sends every present lane that is CLOSED with kept
closed set to RELEASING and changes no other lane. -/
def Obligations.HoldsCloseTheGroupAndReleasesGiveItBack : Prop :=
  (∀ (s : State) (b option : Byte) (l : LaneNo), s.alive = true → b.toNat = l.val → (s.lane l).present = true →
    option.toNat ≤ 1 →
    let held : List LaneNo := match (s.lane l).group with
      | some g => (List.finRange 12).filter fun m => (s.lane m).present && (s.lane m).group == some g
      | none => [l]
    let hold (x : Lane) : Hold := if option = 1 then .holdDown else if x.hold = .free then .hold else x.hold
    let enter (x : Lane) (st : LaneState) : Lane :=
      { x with hold := hold x, state := st, subPhase := none, cause := none, timer := none, keptClosed := false }
    let kept (x : Lane) : Lane := { x with hold := hold x }
    let turned (g : GroupNo) : Prop := ∃ m ∈ held, (s.lane m).state = .releasing ∧ (s.lane m).group = some g
    ∃ u : State, exec (.holdLane b option) s = .next (u.finish.accept) ∧
      { u with road := s.road, window := s.window } = s ∧
      { u.road with lanes := s.road.lanes, groups := s.road.groups } = s.road ∧
      (∀ m, m ∉ held → u.lane m = s.lane m) ∧
      (∀ m ∈ held, (u.lane m).hold = hold (s.lane m)) ∧
      (∀ m ∈ held, (s.lane m).state ≠ .closed → (s.lane m).state ≠ .releasing →
        u.lane m = kept (s.lane m)) ∧
      (∀ m ∈ held, (s.lane m).state = .closed → u.lane m = enter (s.lane m) .held) ∧
      (∀ m ∈ held, (s.lane m).state = .releasing → (s.lane m).group = none → u.lane m = kept (s.lane m)) ∧
      (∀ m ∈ held, ∀ g, (s.lane m).state = .releasing → (s.lane m).group = some g →
        u.lane m = match (s.group g).state with
          | .awaitUp | .down => enter (s.lane m) .held
          | .stopped | .obstructed | .awaitDown | .goingDown => enter (s.lane m) .securing
          | .goingUp | .up | .fault => kept (s.lane m)) ∧
      (∀ g, (turned g → (s.group g).state = .awaitUp →
          u.group g = { s.group g with state := .down, heldStroke := none } ∧
          u.window = { s.window with queue := s.window.queue.filter (· ≠ groupRequester g) }) ∧
        (turned g → (s.group g).state = .stopped → u.group g = { s.group g with heldStroke := some .down }) ∧
        (¬turned g ∨ ((s.group g).state ≠ .awaitUp ∧ (s.group g).state ≠ .stopped) → u.group g = s.group g)) ∧
      ((∀ g, turned g → (s.group g).state ≠ .awaitUp) → u.window = s.window)) ∧
  ((∀ (s : State) (b : Byte) (l : LaneNo), s.alive = true → b.toNat = l.val → (s.lane l).present = true →
     let held : List LaneNo := match (s.lane l).group with
       | some g => (List.finRange 12).filter fun m => (s.lane m).present && (s.lane m).group == some g
       | none => [l]
     let enter (x : Lane) (st : LaneState) : Lane :=
       { x with hold := .free, state := st, subPhase := none, cause := none, timer := none, keptClosed := false }
     let kept (x : Lane) : Lane := { x with hold := .free }
     let unasked (g : GroupNo) : Prop := s.road.closureDemand = false ∧
       (∃ m ∈ held, (s.lane m).state = .securing ∧ (s.lane m).group = some g) ∧
       ((s.group g).state = .up ∨ (s.group g).state = .awaitDown)
     ((s.lane l).hold = .holdDown → exec (.releaseHold b) s = .next (s.refuse .heldDown)) ∧
     ((s.lane l).hold = .free → exec (.releaseHold b) s = .next (s.refuse .notPermitted)) ∧
     ((s.lane l).hold = .hold → ∃ u : State, exec (.releaseHold b) s = .next (u.finish.accept) ∧
       { u with road := s.road, window := s.window } = s ∧
       { u.road with lanes := s.road.lanes, groups := s.road.groups } = s.road ∧
       (∀ m, m ∉ held → u.lane m = s.lane m) ∧ (∀ m ∈ held, (u.lane m).hold = .free) ∧
       (∀ m ∈ held, (s.lane m).state = .held → u.lane m = enter (s.lane m)
         (if s.road.closureDemand then .closed else if (s.lane m).group = none then .isOpen else .releasing)) ∧
       (s.road.closureDemand = true → ∀ m ∈ held, (s.lane m).state ≠ .held → u.lane m = kept (s.lane m)) ∧
       (s.road.closureDemand = false → ∀ m ∈ held, ((s.lane m).state = .warning ∨ (s.lane m).state = .clearing) →
         u.lane m = enter (s.lane m) .isOpen) ∧
       (s.road.closureDemand = false → ∀ m ∈ held,
         ((s.lane m).state = .isOpen ∨ (s.lane m).state = .releasing ∨ (s.lane m).state = .fault) →
         u.lane m = kept (s.lane m)) ∧
       (s.road.closureDemand = false → ∀ m ∈ held, (s.lane m).state = .closed →
         u.lane m =
           if (s.lane m).keptClosed then kept (s.lane m)
           else if (s.lane m).group = none then enter (s.lane m) .isOpen
           else enter (s.lane m) .releasing) ∧
       (s.road.closureDemand = false → ∀ m ∈ held, (s.lane m).state = .securing → (s.lane m).group = none →
         u.lane m = kept (s.lane m)) ∧
       (s.road.closureDemand = false → ∀ m ∈ held, ∀ g, (s.lane m).state = .securing → (s.lane m).group = some g →
         u.lane m = match (s.group g).state with
           | .up | .awaitDown => enter (s.lane m) .isOpen
           | .obstructed | .stopped | .down => enter (s.lane m) .releasing
           | .goingDown | .awaitUp | .goingUp | .fault => kept (s.lane m)) ∧
       (∀ g, (unasked g → u.group g = { s.group g with state := .up, heldStroke := none } ∧
           u.window = { s.window with queue := s.window.queue.filter (· ≠ groupRequester g) }) ∧
         (¬unasked g → u.group g = s.group g)) ∧
       ((∀ g, ¬unasked g) → u.window = s.window))) ∧
  (∀ s : State, s.alive = true →
     (s.road.closureDemand = true ∨ s.motion.pair.state ≠ .locked →
       exec .releaseRoad s = .next (s.refuse .notPermitted)) ∧
     (s.road.closureDemand = false → s.motion.pair.state = .locked →
       ∃ u : State, exec .releaseRoad s = .next (u.finish.accept) ∧
         { u with road := s.road } = s ∧ { u.road with lanes := s.road.lanes } = s.road ∧
         ∀ l, u.lane l =
           if (s.lane l).present ∧ (s.lane l).state = .closed ∧ (s.lane l).keptClosed then
             { s.lane l with state := .releasing, subPhase := none, cause := none, timer := none, keptClosed := false }
           else s.lane l)))

/-- CLEAR LANE FAULT is refused NOT_PERMITTED for a lane without a group, with neither the lane nor its group in
FAULT, and for a lane in FAULT with cause TRAM_COUNT, which it does not clear. Otherwise it re-reads the switches of
the group and the lanes of the group in FAULT with another cause. The down switch alone puts the group in DOWN: lanes
re-read enter HELD under a hold, else CLOSED, kept closed where nothing calls them, and lanes in SECURING end their
closing or turn to RELEASING. The up switch alone puts it in UP: lanes re-read enter CLEARING where they are called,
else OPEN, and lanes in RELEASING enter OPEN. Every other lane keeps its record. Both switches or neither leave the
group and the lanes in FAULT, the group with cause BARRIER_SWITCHES, and the command refused (that the cause is
written though the command is refused is log entry 19). -/
def Obligations.ClearLaneFaultReReadsTheSwitches : Prop :=
  ∀ (s : State) (b : Byte) (l : LaneNo), s.alive = true → b.toNat = l.val → (s.lane l).present = true →
    ((s.lane l).group = none → exec (.clearLaneFault b) s = .next (s.refuse .notPermitted)) ∧
    ∀ g, (s.lane l).group = some g →
      let x := s.group g
      let barred := ((s.lane l).state ≠ .fault ∧ x.state ≠ .fault) ∨
        ((s.lane l).state = .fault ∧ (s.lane l).cause = some .tramCount)
      let ofGroup (m : LaneNo) : Prop := (s.lane m).present = true ∧ (s.lane m).group = some g
      let reread (m : LaneNo) : Prop := ofGroup m ∧ (s.lane m).state = .fault ∧ (s.lane m).cause ≠ some .tramCount
      let called (m : LaneNo) : Bool := s.road.closureDemand || (s.lane m).hold != .free
      let settled (st : GroupState) : Group :=
        { x with state := st, strokeTimer := none, clearTimer := none, heldStroke := none, cause := none }
      let enter (m : LaneNo) (st : LaneState) : Lane :=
        { s.lane m with state := st, subPhase := none, cause := none, timer := none, keptClosed := false }
      let ended (m : LaneNo) : Lane := enter m (if (s.lane m).hold = .free then .closed else .held)
      (barred → exec (.clearLaneFault b) s = .next (s.refuse .notPermitted)) ∧
      (¬barred → x.downSwitch = true → x.upSwitch = false → ∃ u : State,
        exec (.clearLaneFault b) s = .next (u.finish.accept) ∧ { u with road := s.road } = s ∧
        { u.road with lanes := s.road.lanes, groups := s.road.groups } = s.road ∧
        u.group g = settled .down ∧ (∀ h, h ≠ g → u.group h = s.group h) ∧
        ∀ m, (reread m → u.lane m =
            if (s.lane m).hold = .free then { enter m .closed with keptClosed := !called m } else enter m .held) ∧
          (ofGroup m → (s.lane m).state = .securing → u.lane m = if called m then ended m else enter m .releasing) ∧
          (¬reread m → ¬(ofGroup m ∧ (s.lane m).state = .securing) → u.lane m = s.lane m)) ∧
      (¬barred → x.upSwitch = true → x.downSwitch = false → ∃ u : State,
        exec (.clearLaneFault b) s = .next (u.finish.accept) ∧ { u with road := s.road } = s ∧
        { u.road with lanes := s.road.lanes, groups := s.road.groups } = s.road ∧
        u.group g = settled .up ∧ (∀ h, h ≠ g → u.group h = s.group h) ∧
        ∀ m, (reread m → u.lane m =
            if called m then
              { enter m .clearing with
                timer := if (s.lane m).kind = .tram then some (s.clock.now + 1000 * s.cfg Entry.tramCommitTime)
                  else none }
            else enter m .isOpen) ∧
          (ofGroup m → (s.lane m).state = .releasing → u.lane m = enter m .isOpen) ∧
          (¬reread m → ¬(ofGroup m ∧ (s.lane m).state = .releasing) → u.lane m = s.lane m)) ∧
      (¬barred → x.downSwitch = x.upSwitch → ∃ u : State,
        exec (.clearLaneFault b) s = .next (u.finish.refuse .notPermitted) ∧
        { u with road := s.road, window := s.window, link := s.link } = s ∧
        (u.group g).state = .fault ∧ (u.group g).cause = some .barrierSwitches ∧
        (∀ h, h ≠ g → u.group h = s.group h) ∧
        (x.state = .fault → u.road.lanes = s.road.lanes ∧ u.window = s.window ∧ u.link = s.link) ∧
        ∀ m, ((s.lane m).state = .fault ∨ ¬ofGroup m → u.lane m = s.lane m) ∧
          (x.state ≠ .fault → ofGroup m → (s.lane m).state ≠ .fault →
            ¬((s.lane m).state = .held ∧ (s.lane m).hold = .holdDown) →
            u.lane m = { enter m .fault with cause := some .barrierSwitches }))

/-- ACK TRAM COUNT sets a TRAM lane's section count to 0 in every state and changes no more of a lane that is not in
FAULT with cause TRAM_COUNT; such a lane takes its state from its group, or from its closing call without one. A lane
that is not a TRAM lane is refused. -/
def Obligations.AckTramCountSetsTheCountToZero : Prop :=
  ∀ (s : State) (b : Byte) (l : LaneNo), s.alive = true → b.toNat = l.val → (s.lane l).present = true →
    let x := s.lane l
    let called := s.road.closureDemand = true ∨ x.hold ≠ .free
    (x.kind ≠ .tram → exec (.ackTramCount b) s = .next (s.refuse .notPermitted)) ∧
    (x.kind = .tram → ∃ u t : State, exec (.ackTramCount b) s = .next t ∧ t = u.finish.accept ∧
      (t.lane l).count = 0 ∧ { u with road := s.road } = s ∧ (∀ m, m ≠ l → u.lane m = s.lane m) ∧
      u.road.groups = s.road.groups ∧
      (¬(x.state = .fault ∧ x.cause = some .tramCount) → u.lane l = { x with count := 0 }) ∧
      (x.state = .fault → x.cause = some .tramCount → (u.lane l).count = 0 ∧
        (x.group = none → (u.lane l).cause = none ∧ (called → (u.lane l).state = .clearing) ∧
          (¬called → (u.lane l).state = .isOpen)) ∧
        ∀ g, x.group = some g →
          ((s.group g).state = .fault → (u.lane l).state = .fault ∧
            (u.lane l).cause = (s.group g).cause.map GroupFault.forLane) ∧
          ((s.group g).state = .down → (u.lane l).state = (if x.hold = .free then .closed else .held) ∧
            ((u.lane l).keptClosed = true ↔ ¬called)) ∧
          ((s.group g).state = .up → (called → (u.lane l).state = .clearing) ∧
            (¬called → (u.lane l).state = .isOpen)) ∧
          ((s.group g).state = .awaitDown ∨ (s.group g).state = .goingDown ∨ (s.group g).state = .obstructed →
            (u.lane l).state = .securing) ∧
          ((s.group g).state = .awaitUp ∨ (s.group g).state = .goingUp → (u.lane l).state = .releasing) ∧
          ((s.group g).state = .stopped →
            (u.lane l).state = if (s.group g).heldStroke = some .up then .releasing else .securing)))

/-- The lane timers run out: the amber time turns the sub-phase to RED and times the red; the red time stops the timer
and raises HEAD_DARK where an element of the lane's road warning head is DARK; the commitment time of a TRAM lane
stops; the deck clearing timer is expired. The clock stands at the moment of the expiry. -/
def Obligations.LaneTimersRunOut : Prop :=
  ∀ (s : State) (l : LaneNo) (due : Nat), s.alive = true →
    let r := s.reach due
    (s.road.deck = .running due →
      exec .deckClearExpiry s = .next (State.finish { r with road := { s.road with deck := .expired } })) ∧
    ((s.lane l).present = true → (s.lane l).timer = some due →
      ((s.lane l).state = .warning → (s.lane l).subPhase = some .amber →
        exec (.amberExpiry l) s = .next (State.finish (r.modLane l fun x =>
          { x with subPhase := some .red, timer := some (r.clock.now + 1000 * s.cfg Entry.redTime) }))) ∧
      ((s.lane l).state = .warning → (s.lane l).subPhase = some .red →
        let u := r.modLane l fun x => { x with timer := none }
        exec (.redExpiry l) s = .next (State.finish
          (if (List.range 3).any fun e => s.lamps.elementStatus (s.lane l).approach.warningHead e == .dark then
            u.raise .headDark
          else u))) ∧
      ((s.lane l).kind = .tram → (s.lane l).state = .clearing →
        exec (.tramCommitExpiry l) s = .next (State.finish (r.modLane l fun x => { x with timer := none }))))

/-- What the lanes and groups do of themselves in an act, the first lane and the first group by number first (the
model's order of reactions, log entry 4). A called OPEN lane begins its closing: WARNING in AMBER for a ROAD or FOOT
ENTRY lane, CLEARING for any other; a lane kept in RED goes on when no element of its head is DARK; a lane in CLEARING
ends it when its presence is clear (an EXIT lane under the demand after the deck's time) or its TRAM section is empty
after its commitment. A group is asked down with every lane in SECURING, asked up with every lane RELEASING, holds its
stroke while the E-stop is active, and ends its lanes where it is DOWN already. (That a stroke up waiting with the
pair out of LOCKED is turned down is log entry 16; that a lane in SECURING which nothing calls enters RELEASING where
its group is DOWN already is log entry 18.) -/
def Obligations.LanesAndGroupsGoThroughTheirSequences : Prop :=
  (∀ (s : State) (l : LaneNo),
    let x := s.lane l
    let called : Bool := s.road.closureDemand || x.hold != .free
    let enter (st : LaneState) : Lane :=
      { x with state := st, subPhase := none, cause := none, timer := none, keptClosed := false }
    let becomes (y : Lane) : Option State := some (s.modLane l fun _ => y)
    let clearing : Lane := { enter .clearing with
      timer := if x.kind = .tram then some (s.clock.now + 1000 * s.cfg Entry.tramCommitTime) else none }
    let isDark := ∃ e, e < 3 ∧ s.lamps.elementStatus x.approach.warningHead e = .dark
    let clear :=
      if x.kind = .tram then x.timer = none ∧ x.count = 0
      else (s.detector x.input1).presence = false ∧
        (x.role = .entry ∨ s.road.closureDemand = false ∨ s.road.deck = .expired)
    (x.present = false → laneReaction s l = none) ∧
    (x.present = true →
      (x.state = .isOpen →
        (called = false → laneReaction s l = none) ∧
        (called = true → x.kind ≠ .tram → x.role = .entry → laneReaction s l = becomes { enter .warning with
          subPhase := some .amber, timer := some (s.clock.now + 1000 * s.cfg Entry.amberTime) }) ∧
        (called = true → x.kind = .tram ∨ x.role = .exit → laneReaction s l = becomes clearing)) ∧
      (x.state = .warning →
        (x.subPhase = some .red → x.timer = none → ¬isDark → laneReaction s l = becomes clearing) ∧
        (x.subPhase ≠ some .red ∨ x.timer ≠ none ∨ isDark → laneReaction s l = none)) ∧
      (x.state = .clearing →
        (clear → laneReaction s l = becomes
          (enter (if x.group ≠ none then .securing else if x.hold = .free then .closed else .held))) ∧
        (¬clear → laneReaction s l = none)) ∧
      (x.state ≠ .isOpen → x.state ≠ .warning → x.state ≠ .clearing → laneReaction s l = none)) ∧
    ∀ t, laneReaction s l = some t → (∀ m, m < l → laneReaction s m = none) → lanesReaction s = some t) ∧
  ∀ (s : State) (g : GroupNo),
    let x := s.group g
    let ofGroup (m : LaneNo) : Prop := (s.lane m).present = true ∧ (s.lane m).group = some g
    let state (m : LaneNo) : LaneState := (s.lane m).state
    let called (m : LaneNo) : Bool := s.road.closureDemand || (s.lane m).hold != .free
    let enter (m : LaneNo) (st : LaneState) : Lane :=
      { s.lane m with state := st, subPhase := none, cause := none, timer := none, keptClosed := false }
    let ended (m : LaneNo) : Lane := enter m (if (s.lane m).hold = .free then .closed else .held)
    let awaits (st : GroupState) (held : Option ArmStroke) : State :=
      s.modGroup g fun _ => { x with state := st, clearTimer := none, heldStroke := held }
    let ask (st : GroupState) (stroke : ArmStroke) : Option State :=
      some (if s.motion.estop then awaits st (some stroke) else (awaits st none).request (groupRequester g))
    let used := ∃ m, ofGroup m
    let secured := ∀ m, ofGroup m → state m = .securing ∨ (state m = .held ∧ (s.lane m).hold = .holdDown)
    let released := ∀ m, ofGroup m → state m = .releasing
    let ends := (∃ m, ofGroup m ∧ state m = .securing) ∧
      ∀ m, ofGroup m → state m = .securing ∨ state m = .closed ∨ state m = .held
    let turned := s.motion.pair.state ≠ .locked ∧ ∃ m, ofGroup m ∧ state m = .releasing ∧ called m = true
    (¬used → groupReaction s g = none) ∧
    (used →
      (x.state = .up →
        (secured → groupReaction s g = ask .awaitDown .down) ∧ (¬secured → groupReaction s g = none)) ∧
      (x.state = .down →
        (released → groupReaction s g = ask .awaitUp .up) ∧
        (¬released → ends → ∃ u : State, groupReaction s g = some u ∧ { u with road := s.road } = s ∧
          { u.road with lanes := s.road.lanes } = s.road ∧
          ∀ m, (ofGroup m → state m = .securing → u.lane m = if called m then ended m else enter m .releasing) ∧
            (¬ofGroup m ∨ state m ≠ .securing → u.lane m = s.lane m)) ∧
        (¬released → ¬ends → groupReaction s g = none)) ∧
      (x.state = .obstructed →
        (released → groupReaction s g = ask .awaitUp .up) ∧ (¬released → groupReaction s g = none)) ∧
      (x.state = .stopped → x.heldStroke ≠ some .up →
        (released → groupReaction s g = some (s.modGroup g fun _ => { x with heldStroke := some .up })) ∧
        (¬released → groupReaction s g = none)) ∧
      (x.state = .awaitUp ∨ (x.state = .stopped ∧ x.heldStroke = some .up) →
        (¬turned → groupReaction s g = none) ∧
        (turned → ∃ u : State, groupReaction s g = some u ∧ { u with road := s.road, window := s.window } = s ∧
          { u.road with lanes := s.road.lanes, groups := s.road.groups } = s.road ∧
          (∀ h, h ≠ g → u.group h = s.group h) ∧
          (∀ m, ¬ofGroup m ∨ state m ≠ .releasing → u.lane m = s.lane m) ∧
          (x.state = .awaitUp → u.group g = { x with state := .down, heldStroke := none } ∧
            u.window = { s.window with queue := s.window.queue.filter (· ≠ groupRequester g) } ∧
            ∀ m, ofGroup m → state m = .releasing → u.lane m = ended m) ∧
          (x.state = .stopped → u.group g = { x with heldStroke := some .down } ∧ u.window = s.window ∧
            ∀ m, ofGroup m → state m = .releasing → u.lane m = enter m .securing)))) ∧
    (x.state = .awaitDown ∨ x.state = .goingDown ∨ x.state = .goingUp ∨ x.state = .fault →
      groupReaction s g = none) ∧
    ∀ t, groupReaction s g = some t → (∀ h, h < g → groupReaction s h = none) → groupsReaction s = some t

/-! ### Barrier groups -/

/-- The end switches of a group in use: both on together, or the switch of a settled group turning off, puts the
group in FAULT with cause BARRIER_SWITCHES (a group in FAULT keeps its cause); the switch of the stroke's direction
turning on ends it, and the lanes in SECURING enter CLOSED or HELD, or RELEASING where nothing calls them, those in
RELEASING enter OPEN. Any other change is read and no more; a change to the level shown already is none (log entry
5). A group not in use takes its state from the switches alone. -/
def Obligations.EndSwitchesMoveTheGroup : Prop :=
  ∀ (s : State) (g : GroupNo) (w : ArmSwitch) (on : Bool), s.alive = true →
    let x := s.group g
    let level := match w with
      | .down => x.downSwitch
      | .up => x.upSwitch
    let x' : Group := match w with
      | .down => { x with downSwitch := on }
      | .up => { x with upSwitch := on }
    let settled (st : GroupState) : Group :=
      { x' with state := st, strokeTimer := none, clearTimer := none, heldStroke := none, cause := none }
    let ofGroup (m : LaneNo) : Prop := (s.lane m).present = true ∧ (s.lane m).group = some g
    let called (m : LaneNo) : Prop := s.road.closureDemand = true ∨ (s.lane m).hold ≠ .free
    let knocked := on = false ∧ ((x.state = .down ∧ w = .down) ∨ (x.state = .up ∧ w = .up))
    let faulty := (x'.downSwitch = true ∧ x'.upSwitch = true) ∨ knocked
    let command := Instr.barrierEndSwitchChange g w on
    (level = on → exec command s = .next s) ∧
    (level ≠ on →
      ((∀ m, ¬ofGroup m) → exec command s = .next (State.finish (s.modGroup g fun _ =>
        if x'.upSwitch && !x'.downSwitch then settled .up
        else if x'.downSwitch && !x'.upSwitch then settled .down
        else { settled .fault with cause := if x.cause.isSome then x.cause else some .barrierSwitches }))) ∧
      ((∃ m, ofGroup m) →
        (faulty → ∃ u : State, exec command s = .next u.finish ∧
          { u with road := s.road, window := s.window, link := s.link } = s ∧
          (∀ h, h ≠ g → u.group h = s.group h) ∧ (∀ m, ¬ofGroup m → u.lane m = s.lane m) ∧
          (x.state = .fault → u.group g = x' ∧ u.road.lanes = s.road.lanes) ∧
          (x.state ≠ .fault → u.group g = { settled .fault with cause := some .barrierSwitches } ∧
            u.link = { s.link with factors := s.link.factors ||| 0x0020 } ∧
            u.window = { s.window with queue := s.window.queue.filter (· ≠ groupRequester g) } ∧
            ∀ m, ofGroup m → (s.lane m).state ≠ .fault → ¬((s.lane m).state = .held ∧ (s.lane m).hold = .holdDown) →
              u.lane m = { s.lane m with
                state := .fault, subPhase := none, cause := some .barrierSwitches, timer := none
                keptClosed := false })) ∧
        (¬faulty → x.state = .goingDown → w = .down → on = true → ∃ u : State, exec command s = .next u.finish ∧
          { u with road := s.road } = s ∧ u.group g = settled .down ∧ (∀ h, h ≠ g → u.group h = s.group h) ∧
          ∀ m, (ofGroup m → (s.lane m).state = .securing →
              (called m → (u.lane m).state = if (s.lane m).hold = .free then .closed else .held) ∧
              (¬called m → (u.lane m).state = .releasing)) ∧
            (¬ofGroup m ∨ (s.lane m).state ≠ .securing → u.lane m = s.lane m)) ∧
        (¬faulty → x.state = .goingUp → w = .up → on = true → ∃ u : State, exec command s = .next u.finish ∧
          { u with road := s.road } = s ∧ u.group g = settled .up ∧ (∀ h, h ≠ g → u.group h = s.group h) ∧
          ∀ m, (ofGroup m → (s.lane m).state = .releasing → (u.lane m).state = .isOpen) ∧
            (¬ofGroup m ∨ (s.lane m).state ≠ .releasing → u.lane m = s.lane m)) ∧
        (¬faulty → ¬(x.state = .goingDown ∧ w = .down ∧ on = true) → ¬(x.state = .goingUp ∧ w = .up ∧ on = true) →
          exec command s = .next (State.finish (s.modGroup g fun _ => x')))))

/-- A stroke that its timer outlasts puts the group in FAULT with cause BARRIER_TIMEOUT, with its lanes. The
obstruction input stops a lowering arm at its turning on and raises LANE_OBSTRUCTED; in OBSTRUCTED its turning off
starts 3 s and its turning on stops them; in any other state it is read alone. At their end the group awaits a grant
afresh: it requests a start, or holds the stroke while the E-stop is active. (A change to the level shown already
changes nothing, log entry 5.) -/
def Obligations.StrokeTimeoutAndObstruction : Prop :=
  ∀ (s : State) (g : GroupNo), s.alive = true →
    let x := s.group g
    (∀ due, x.strokeTimer = some due → x.state ≠ .fault → ∃ u : State,
      exec (.barrierStrokeTimeout g) s = .next u.finish ∧
      u.clock = { s.clock with now := max s.clock.now due } ∧
      { u with clock := s.clock, road := s.road, window := s.window, link := s.link } = s ∧
      u.group g = { x with
        state := .fault, strokeTimer := none, clearTimer := none, heldStroke := none, cause := some .barrierTimeout } ∧
      (∀ h, h ≠ g → u.group h = s.group h) ∧ groupRequester g ∉ u.window.queue ∧
      ((∃ m, (s.lane m).present = true ∧ (s.lane m).group = some g) → u.link.factors.getLsbD 5 = true) ∧
      ∀ m, (s.lane m).present = true → (s.lane m).group = some g → (s.lane m).state ≠ .fault →
        ¬((s.lane m).state = .held ∧ (s.lane m).hold = .holdDown) →
        (u.lane m).state = .fault ∧ (u.lane m).cause = some .barrierTimeout ∧ (u.lane m).timer = none ∧
        (u.lane m).subPhase = none ∧ (u.lane m).hold = (s.lane m).hold) ∧
    (∀ on, (x.obstruction = on → exec (.obstructionInputChange g on) s = .next s) ∧
      (x.obstruction ≠ on →
        (x.state = .goingDown → on = true → exec (.obstructionInputChange g on) s =
          .next (State.finish ((s.modGroup g fun x =>
            { x with obstruction := true, state := .obstructed, strokeTimer := none, clearTimer := none }).raise
              .laneObstructed))) ∧
        (x.state = .obstructed → exec (.obstructionInputChange g on) s =
          .next (State.finish (s.modGroup g fun x =>
            { x with obstruction := on, clearTimer := if on then none else some (s.clock.now + 3000) }))) ∧
        (x.state ≠ .obstructed → ¬(x.state = .goingDown ∧ on = true) → exec (.obstructionInputChange g on) s =
          .next (State.finish (s.modGroup g fun x => { x with obstruction := on }))))) ∧
    ∀ due, x.state = .obstructed → x.clearTimer = some due →
      let r := s.reach due
      (s.motion.estop = true → exec (.obstructionClearExpiry g) s = .next (State.finish (r.modGroup g fun x =>
        { x with state := .awaitDown, clearTimer := none, heldStroke := some .down }))) ∧
      (s.motion.estop = false → exec (.obstructionClearExpiry g) s = .next (State.finish ((r.modGroup g fun x =>
        { x with state := .awaitDown, clearTimer := none, heldStroke := none }).request (groupRequester g))))

/-! ### Detectors -/

/-- A detector input's change starts the filter of its role: 200 ms of a presence input's stability, the 40 ms of a
pulse filter by its condition; an input of no lane is read alone. At the end of its 200 ms a presence input takes a
level that differs, and the lane's duration begins at 0 or stops, its obstructed flag clear; a pulse filter in COUNTED
that has been inactive for its 40 ms waits again. Every 100 ms of presence the lane's duration advances by one, up to
65535, and at the advance that finds it at 10 times STALL_TIME or more the lane is obstructed: LANE_OBSTRUCTED is
raised where it was not. No lane moves by it. The event LANE_OBSTRUCTED is the advance that does so
(log entry 3); named when none does, or an input's change to its own level, it changes nothing (log entry 5). -/
def Obligations.DetectorsAreFilteredAndPresenceTimed : Prop :=
  (∀ (s : State) (i : InputNo), s.alive = true →
     let d := s.detector i
     (∀ on, (d.level = on → exec (.detectorInputChange i on) s = .next s) ∧
       (d.level ≠ on →
         (s.inputRole i = none → exec (.detectorInputChange i on) s =
           .next (s.modDetector i fun d => { d with level := on })) ∧
         (∀ l, s.inputRole i = some (l, .presence) → exec (.detectorInputChange i on) s =
           .next (s.modDetector i fun d => { d with level := on, stability := some (s.clock.now + 200) })) ∧
         (∀ l r, s.inputRole i = some (l, r) → r ≠ .presence → exec (.detectorInputChange i on) s =
           .next (s.modDetector i fun d => match d.pulse, on with
             | .waiting, true => { d with level := on, pulse := .timing, pulseTimer := some (s.clock.now + 40) }
             | .timing, false => { d with level := on, pulse := .waiting, pulseTimer := none }
             | .counted, false => { d with level := on, pulseTimer := some (s.clock.now + 40) }
             | .counted, true => { d with level := on, pulseTimer := none }
             | _, _ => { d with level := on })))) ∧
     (∀ due, d.stability = some due →
       let u := (s.reach due).modDetector i fun d => { d with stability := none, presence := d.level }
       (d.level = d.presence → exec (.presenceFilterExpiry i) s = .next u) ∧
       ∀ l, d.level ≠ d.presence → s.inputRole i = some (l, .presence) → exec (.presenceFilterExpiry i) s =
         .next (State.finish (u.modLane l fun x =>
           if d.level then { x with duration := 0, durationTimer := some (max s.clock.now due + 100) }
           else { x with durationTimer := none, obstructed := false }))) ∧
     ∀ due, d.pulse = .counted → d.pulseTimer = some due → exec (.pulseFilterRearm i) s =
       .next ((s.reach due).modDetector i fun d => { d with pulse := .waiting, pulseTimer := none })) ∧
  (∀ (s : State) (l : LaneNo) (due : Nat), s.alive = true → (s.lane l).durationTimer = some due →
     let next := min 65535 ((s.lane l).duration + 1)
     let u := (s.reach due).modLane l fun x =>
       { x with
         duration := next
         durationTimer := some (due + 100)
         obstructed := x.obstructed || decide (10 * s.cfg Entry.stallTime ≤ next) }
     let stalls := (s.lane l).obstructed = false ∧ 10 * s.cfg Entry.stallTime ≤ next
     (stalls → exec (.presenceDurationAdvance l) s = .next (u.raise .laneObstructed) ∧
       exec (.laneObstructed l) s = .next (u.raise .laneObstructed)) ∧
     (¬stalls → exec (.presenceDurationAdvance l) s = .next u ∧ exec (.laneObstructed l) s = .next s))

/-- A pulse counted at the entry input of a present TRAM lane adds one to its section count, up to 7, and one at its
exit input takes one away, down to 0. A pulse at the limit is a count fault, and so is an entry pulse in CLOSED or
HELD: it raises LANE_FAULT, and puts the lane in FAULT with cause TRAM_COUNT unless it is in FAULT already or its hold
is HOLD_DOWN (what the model does under HOLD_DOWN outside HELD is log entry 38). -/
def Obligations.PulsesCountTheSection : Prop :=
  ∀ (s : State) (l : LaneNo) (due : Nat), s.alive = true → (s.lane l).present = true → (s.lane l).kind = .tram →
    let x := s.lane l
    let outcome (c : Instr) (i : InputNo) (count : Nat) (fault : Prop) : Prop :=
      ∃ u : State, exec c s = .next u.finish ∧
        u.clock = { s.clock with now := max s.clock.now due } ∧
        { u with clock := s.clock, road := s.road, detectors := s.detectors, link := s.link } = s ∧
        u.detector i = { s.detector i with pulse := .counted, pulseTimer := none } ∧
        (∀ j, j ≠ i → u.detector j = s.detector j) ∧ (∀ m, m ≠ l → u.lane m = s.lane m) ∧
        u.road.groups = s.road.groups ∧
        (¬fault → u.link = s.link ∧ u.lane l = { x with count := count }) ∧
        (fault → u.link = { s.link with factors := s.link.factors ||| 0x0020 } ∧
          (x.state = .fault ∨ x.hold = .holdDown → u.lane l = { x with count := count }) ∧
          (x.state ≠ .fault → x.hold ≠ .holdDown → u.lane l = { x with
            count := count, state := .fault, subPhase := none, cause := some .tramCount, timer := none
            keptClosed := false }))
    ((s.detector x.input1).pulse = .timing → (s.detector x.input1).pulseTimer = some due →
      outcome (.entryPulse l) x.input1 (min 7 (x.count + 1)) (x.count = 7 ∨ x.state = .closed ∨ x.state = .held)) ∧
    ((s.detector x.input2).pulse = .timing → (s.detector x.input2).pulseTimer = some due →
      outcome (.exitPulse l) x.input2 (x.count - 1) (x.count = 0))

/-! ### Lamps -/

/-- The flash generator alternates its phases by the half-period of the FLASH_RATE in force; a channel's current sense
starts and stops the 300 ms of its drive; the periodic pass, every 60 s, puts every channel it may test at the end of
the proving list, and PROVE HEAD puts those of its head at its head, in channel number order. The drives and the next
test follow in the same act. CLEAR LAMP FAILURE makes a FAILED_STUCK channel without current GOOD, dark and first on
the proving list, and changes neither its counter nor the first-failure record; for any other channel it is refused.
CLEAR LAMP COUNTS makes every failure counter 0 and the first-failure record absent, and changes no channel's state
and not the proving list. (A sense's change to its own level changes nothing, log entry 5; that a FAILED_OPEN
channel is put on the list and tested is log entry 45; that a cleared channel wanted lit is driven in the rest of the
act is log entry 46.) -/
def Obligations.LampTimersProvingAndClearing : Prop :=
  (∀ s : State, s.alive = true →
     let may (c : ChannelNo) : Bool :=
       (s.channel c).assignment.isSome && (s.channel c).state != .failedStuck && (s.channel c).drive == .off
         && s.lamps.underTest != some c
     (∀ due, s.lamps.flashTimer = some due → exec .flashPhaseChange s = .next (State.lampStage { s.reach due with
       lamps := { s.lamps with
         phaseB := !s.lamps.phaseB, flashTimer := some (due + 30000 / s.cfg Entry.flashRate) } })) ∧
     (∀ due, s.lamps.periodicTimer = some due →
       exec .periodicProvingExpiry s = .next (State.lampStage { s.reach due with
         lamps := { s.lamps with
           periodicTimer := some (due + 60000)
           proving := s.lamps.proving ++
             (List.finRange 48).filter fun c => may c && decide (c ∉ s.lamps.proving) } })) ∧
     (∀ (b : Byte) (h : HeadNo), b.toNat = h.val →
       let cs := (List.finRange 48).filter fun c => (s.channel c).assignment.map (·.head) == some h && may c
       exec (.proveHead b) s = .next ((State.lampStage { s with lamps := { s.lamps with
         proving := cs ++ s.lamps.proving.filter (· ∉ cs) } }).respond .accepted [byteOf cs.length])) ∧
     ∀ (c : ChannelNo) (present : Bool),
       let x := s.channel c
       (x.sense = present → exec (.currentSenseChange c present) s = .next s) ∧
       (x.sense ≠ present → exec (.currentSenseChange c present) s = .next (s.modChannel c fun x =>
         match x.drive with
         | .lit =>
           { x with sense := present, noCurrent := if present then none else some (s.clock.now + 300) }
         | .off =>
           { x with
             sense := present
             darkCurrent :=
               if x.assignment.isSome && present && x.state != .failedStuck then some (s.clock.now + 300) else none }
         | .test => { x with sense := present }))) ∧
  (∀ s : State, s.alive = true →
     (∃ t, exec .clearLampCounts s = .next t ∧ t.lamps.firstFailure = none ∧
       (∀ c, t.channel c = { s.channel c with failures := 0 }) ∧
       { t with lamps := s.lamps, link := s.link } = s ∧
       { t.lamps with channels := s.lamps.channels, firstFailure := s.lamps.firstFailure } = s.lamps ∧
       t.link = { s.link with response := frame 0x00 [] }) ∧
     ∀ (b : Byte) (c : ChannelNo), b.toNat = c.val →
       let may := (s.channel c).assignment ≠ none ∧ (s.channel c).state = .failedStuck ∧ (s.channel c).sense = false
       (¬may → exec (.clearLampFailure b) s = .next (s.refuse .notPermitted)) ∧
       (may → exec (.clearLampFailure b) s = .next (State.accept (State.finish
         { (s.modChannel c fun x => { x with state := .good, drive := .off, darkCurrent := none }) with
           lamps := { (s.modChannel c fun x => { x with state := .good, drive := .off, darkCurrent := none }).lamps with
             proving := c :: s.lamps.proving.filter (· ≠ c) } }))))

/-- The 300 ms of a lit channel without current make it FAILED_OPEN, those of a dark channel with current
FAILED_STUCK, and a test of 50 ms that finds no current makes a GOOD channel FAILED_OPEN: its drive is OFF, its
counter adds one up to 15, an absent first-failure record takes it, and LAMP_FAILED is raised. A test that finds
current makes its channel GOOD; a FAILED_OPEN channel that fails it stays as it is. (That a FAILED_OPEN channel is
tested, and becomes GOOD again by its test, is read from R98 to R101 and R108 against the last sentence of R90, log
entry 45.) -/
def Obligations.LampFailuresAreFound : Prop :=
  ∀ (s : State) (c : ChannelNo) (due : Nat), s.alive = true →
    let now := max s.clock.now due
    let fails (command : Instr) (kind : ChannelState) (stuck : Bool) (test : Bool) : Prop :=
      ∃ u : State, exec command s = .next u.finish ∧ u.clock = { s.clock with now := now } ∧
        { u with clock := s.clock, lamps := s.lamps, link := s.link } = s ∧
        u.channel c = { s.channel c with
          state := kind, drive := .off, noCurrent := none, darkCurrent := none
          failures := min 15 ((s.channel c).failures + 1) } ∧
        (∀ d, d ≠ c → u.channel d = s.channel d) ∧
        (s.lamps.firstFailure = none →
          u.lamps.firstFailure = some { channel := c, stuck := stuck, time := s.clock.uptime }) ∧
        (s.lamps.firstFailure ≠ none → u.lamps.firstFailure = s.lamps.firstFailure) ∧
        u.lamps.proving = s.lamps.proving ∧ (test = true → u.lamps.underTest = none ∧ u.lamps.testTimer = none) ∧
        u.link.factors.getLsbD 7 = true
    ((s.channel c).noCurrent = some due → fails (.noCurrentExpiry c) .failedOpen false false) ∧
    ((s.channel c).darkCurrent = some due → fails (.darkCurrentExpiry c) .failedStuck true false) ∧
    (s.lamps.underTest = some c → s.lamps.testTimer = some due →
      let ended : State :=
        { s.reach due with lamps := { s.lamps with underTest := none, testTimer := none } }
      ((s.channel c).sense = false → (s.channel c).state = .good → fails .testPulseEnd .failedOpen false true) ∧
      ((s.channel c).sense = false → (s.channel c).state ≠ .good → exec .testPulseEnd s =
        .next (State.finish (ended.modChannel c fun x =>
          { x with drive := .off, noCurrent := none, darkCurrent := none }))) ∧
      ((s.channel c).sense = true → exec .testPulseEnd s = .next (State.finish (ended.modChannel c fun x =>
        { x with
          state := .good, drive := .off, noCurrent := none
          darkCurrent := if x.assignment.isSome && x.state != .failedStuck then some (now + 300) else none }))))

/-! ### Leaves, locks, pumps and the pair -/

/-- Encoder steps move the leaf's count by one, saturating at 0 and 65535. A seat switch turning on sets a count that
is not valid, or is no greater than COUNTS_FULL/100, to 0 and valid, and a greater one is made not valid and the pair
enters FAULT with cause ENCODER_MISMATCH; in LOWERING, SEATING and RECOVERING the leaf's demand is then 0. The
full-open switch tests a valid count against COUNTS_FULL within a hundredth, outside FAULT, and leaves it. A switch
that shows the level already changes nothing (log entry 5). -/
def Obligations.LeafSwitchesReferTheCount : Prop :=
  ∀ (s : State) (i : Side), s.alive = true →
    let x := s.leaf i
    let full := match i with
      | .n => s.cfg Entry.countsFullN
      | .s => s.cfg Entry.countsFullS
    let st := s.motion.pair.state
    let stops : Bool := st == .lowering || st == .seating || st == .recovering
    (∀ d, exec (.encoderStep i d) s = .next (s.modLeaf i fun x =>
      { x with count := match d with
        | .raise => min 65535 (x.count + 1)
        | .lower => x.count - 1 })) ∧
    (x.seat = true → exec (.seatSwitchOn i) s = .next s) ∧
    (x.fullOpen = true → exec (.fullOpenSwitchOn i) s = .next s) ∧
    (x.seat = false →
      ((x.countValid = false ∨ x.count ≤ full / 100) → exec (.seatSwitchOn i) s = .next (State.finish
        (s.modLeaf i fun x =>
          { x with seat := true, demand := if stops then 0 else x.demand, count := 0, countValid := true }))) ∧
      (x.countValid = true → full / 100 < x.count → exec (.seatSwitchOn i) s = .next (State.finish
        ((s.modLeaf i fun x =>
          { x with seat := true, demand := if stops then 0 else x.demand, countValid := false }).enterFault
            .encoderMismatch)))) ∧
    (x.fullOpen = false →
      let off := x.count < full - full / 100 ∨ full + full / 100 < x.count
      ((x.countValid = false ∨ s.motion.pair.state = .fault ∨ ¬off) → exec (.fullOpenSwitchOn i) s =
        .next (State.finish (s.modLeaf i fun x => { x with fullOpen := true }))) ∧
      (x.countValid = true → s.motion.pair.state ≠ .fault → off → exec (.fullOpenSwitchOn i) s =
        .next (State.finish ((s.modLeaf i fun x => { x with fullOpen := true, countValid := false }).enterFault
          .encoderMismatch)))) ∧
    (exec (.fullOpenSwitchOff i) s = .next (s.modLeaf i fun x => { x with fullOpen := false })) ∧
    (x.seat = false → exec (.seatSwitchOff i) s = .next s) ∧
    (x.seat = true →
      let u := s.modLeaf i fun x => { x with seat := false }
      ((s.motion.pair.effective = .locking ∨ s.motion.pair.effective = .locked) →
        exec (.seatSwitchOff i) s = .next (State.finish (u.enterFault .seatLost))) ∧
      (s.motion.pair.effective ≠ .locking → s.motion.pair.effective ≠ .locked →
        exec (.seatSwitchOff i) s = .next (State.finish u)))

/-- Entering FAULT, by any cause, from any state but FAULT: both demands and the pair demand are 0, both pumps OFF
with their timers stopped, every lock and pump request gone with a stroke that has not begun, strokes in progress left
to run, the halt causes empty, the interrupted state, recovery step, channel-clear timer and target absent, the cause
set and MOTION_FAULT raised. In FAULT the first cause stays. Nothing of the road, the book, the lamps, the site, the
wind or the link's buffers is touched. -/
def Obligations.EnteringFaultStopsThePair : Prop :=
  ∀ (s : State) (c : PairFault),
    let u := s.enterFault c
    (s.motion.pair.state = .fault → u = s) ∧
    (s.motion.pair.state ≠ .fault →
      u.motion.pair = { s.motion.pair with
        state := .fault, target := none, interrupted := none, halts := HaltSet.empty, channelTimer := none
        cause := some c, step := none } ∧
      (∀ i, (u.leaf i).demand = 0 ∧ u.leaf i = { s.leaf i with demand := 0 }) ∧
      (∀ i, u.pump i = { s.pump i with state := .off, held := false, timer := none }) ∧
      (∀ k, u.lock k = { s.lock k with
        held := false, stroke := if (s.lock k).state = .stroking then (s.lock k).stroke else none }) ∧
      u.motion.period = { s.motion.period with pairDemand := 0 } ∧ u.motion.rampBase = 0 ∧
      u.window = { s.window with queue := s.window.queue.filter (fun r => decide (r.val < 8)) } ∧
      u.link = { s.link with factors := s.link.factors ||| 0x0200 } ∧
      { u with motion := s.motion, window := s.window, link := s.link } = s)

/-- A lock's stroke ends at its own end switch: WITHDRAWN or DRIVEN, the stroke absent, the timer stopped; any other
change of its switches is read alone. A stroke that its timer outlasts leaves the lock in FAULT, and the pair enters
FAULT with cause LOCK_TIMEOUT (that the stroke is then absent is log entry 27). A starting pump is RUNNING at its
running input's turning on; a RUNNING pump whose input turns off, and a start that its timer outlasts, put the pair
in FAULT with cause PUMP_TIMEOUT; any other change of the input is read alone, and a change to the level shown
already is none (log entry 5). -/
def Obligations.LocksAndPumpsEndTheirStarts : Prop :=
  (∀ (s : State) (k : LockId), s.alive = true →
     let x := s.lock k
     (∀ (w : LockSwitch) (on : Bool),
       let level := match w with
         | .driven => x.drivenSwitch
         | .withdrawn => x.withdrawnSwitch
       let read (x : Lock) : Lock := match w with
         | .driven => { x with drivenSwitch := on }
         | .withdrawn => { x with withdrawnSwitch := on }
       (level = on → exec (.lockEndSwitchChange k w on) s = .next s) ∧
       (level ≠ on → x.state = .stroking → on = true → x.stroke = some .withdraw → w = .withdrawn →
         exec (.lockEndSwitchChange k w on) s = .next (State.finish (s.modLock k fun x =>
           { read x with state := .withdrawn, stroke := none, timer := none }))) ∧
       (level ≠ on → x.state = .stroking → on = true → x.stroke = some .drive → w = .driven →
         exec (.lockEndSwitchChange k w on) s = .next (State.finish (s.modLock k fun x =>
           { read x with state := .driven, stroke := none, timer := none }))) ∧
       (level ≠ on → ¬(x.state = .stroking ∧ on = true ∧
           ((x.stroke = some .withdraw ∧ w = .withdrawn) ∨ (x.stroke = some .drive ∧ w = .driven))) →
         exec (.lockEndSwitchChange k w on) s = .next (State.finish (s.modLock k read)))) ∧
     ∀ due, x.timer = some due → exec (.lockStrokeTimeout k) s =
       .next (State.finish (((s.reach due).modLock k fun x =>
         { x with state := .fault, stroke := none, timer := none }).enterFault .lockTimeout))) ∧
  (∀ (s : State) (i : Side) (on : Bool), s.alive = true →
     let x := s.pump i
     let read := s.modPump i fun x => { x with runningInput := on }
     let command := Instr.pumpRunningInputChange i on
     (x.runningInput = on → exec command s = .next s) ∧
     (x.runningInput ≠ on →
       (x.state = .starting → on = true → exec command s = .next (State.finish (s.modPump i fun x =>
         { x with runningInput := true, state := .running, timer := none }))) ∧
       (x.state = .running → on = false → exec command s = .next (State.finish (read.enterFault .pumpTimeout))) ∧
       (¬(x.state = .starting ∧ on = true) → ¬(x.state = .running ∧ on = false) →
         exec command s = .next (State.finish read))) ∧
     ∀ due, x.timer = some due → exec (.pumpStartTimeout i) s =
       .next (State.finish (((s.reach due).modPump i fun x => { x with timer := none }).enterFault .pumpTimeout)))

/-- The pair leaves LOCKED for UNLOCKING, taking the published target, once a raise demand is set, the road secured,
the wind valid and below WIND_START, the E-stop released and neither shipping head FAULTED; while one of these fails
it stays (log entry 5). RECOVER is refused BUSY outside FAULT, and NOT_PERMITTED in it with the road not secured or
the E-stop active; taken, it re-refers the seated leaves and takes the pair to LOCKED, LOCKING or RECOVERING in step
WITHDRAW, with the fault cause absent. -/
def Obligations.PairUnlocksAndRecovers : Prop :=
  ∀ s : State, s.alive = true →
    let p := s.motion.pair
    let may := p.state = .locked ∧ s.raiseDemand = true ∧ s.roadSecured = true ∧ s.windCalm = true ∧
      s.motion.estop = false ∧ s.lamps.headFaulted 4 = false ∧ s.lamps.headFaulted 5 = false
    let refer (x : Leaf) : Leaf :=
      if x.seat = true ∧ x.countValid = false then { x with count := 0, countValid := true } else x
    let stopped (x : Leaf) : Leaf := { x with demand := 0 }
    (¬may → exec .pairUnlock s = .next s) ∧
    (may → ∃ u : State, exec .pairUnlock s = .next u.finish ∧ { u with motion := s.motion } = s ∧
      u.motion.pair = { p with
        state := .unlocking, interrupted := none, step := none, target := s.book.opening.map (·.target) } ∧
      (∀ i, u.leaf i = stopped (s.leaf i)) ∧ (∀ k, u.lock k = s.lock k) ∧ (∀ i, u.pump i = s.pump i)) ∧
    (p.state ≠ .fault → exec .recover s = .next (s.refuse .busy)) ∧
    (p.state = .fault → (s.roadSecured = false ∨ s.motion.estop = true) →
      exec .recover s = .next (s.refuse .notPermitted)) ∧
    (p.state = .fault → s.roadSecured = true → s.motion.estop = false →
      ∃ u : State, exec .recover s = .next (u.finish.accept) ∧ { u with motion := s.motion } = s ∧
        u.motion.pair.cause = none ∧ u.motion.pair.interrupted = none ∧
        (∀ i, (u.leaf i).count = (refer (s.leaf i)).count ∧ (u.leaf i).countValid = (refer (s.leaf i)).countValid ∧
          (u.leaf i).seat = (s.leaf i).seat ∧ (u.leaf i).demand = 0) ∧
        (∀ k, u.lock k = s.lock k) ∧ (∀ i, u.pump i = s.pump i) ∧
        let seated := (s.leaf .n).seat = true ∧ (s.leaf .s).seat = true
        let driven := ∀ k, (s.lock k).state = .driven
        (seated → driven → u.motion.pair.state = .locked ∧ u.motion.pair.target = none) ∧
        (seated → ¬driven → u.motion.pair.state = .locking) ∧
        (¬seated → u.motion.pair.state = .recovering ∧ u.motion.pair.step = some .withdraw ∧
          ∀ i, (u.leaf i).direction = .lower))

/-- What the pair does of itself in an act, each step an act's reaction. Entering a state takes the demands and the
ramp base to 0 and sets the direction of the state. LOCKED is left for UNLOCKING, taking the published target, exactly
with a raise demand, the road secured, the wind valid and below WIND_START, the E-stop released and no shipping head
FAULTED. UNLOCKING withdraws the bolt, then the tail locks; FREE and STARTING start the pumps that do not run, N
first, and a kept state is entered when both do; LOCKING drives the tail locks, then the bolt, and ends in LOCKED with
the target absent; RECOVERING withdraws the locks in the way of an unseated leaf, starts its pump and creeps. A lower
demand turns UNLOCKING, FREE and STARTING to LOCKING, and RAISING and OPEN to LOWERING; both leaves seated end
LOWERING, SEATING and RECOVERING. A request is held while the E-stop is active. (A leaf that leaves its seat in START
has its pump started, and in CREEP is driven, with no step back: the model's choice, log entry 48.) -/
def Obligations.ThePairGoesThroughItsSequences : Prop :=
  (∀ s : State,
    (∀ st : PairState, let u := s.enterPair st
      { u with motion := s.motion } = s ∧
      u.motion.pair = { s.motion.pair with state := st, interrupted := none, step := none } ∧
      u.motion.rampBase = 0 ∧ u.motion.period = { s.motion.period with pairDemand := 0 } ∧
      (∀ i, u.leaf i = { s.leaf i with
        demand := 0
        direction := match st with
          | .raising | .isOpen => .raise
          | .lowering | .seating | .recovering => .lower
          | _ => (s.leaf i).direction }) ∧
      (∀ k, u.lock k = s.lock k) ∧ ∀ i, u.pump i = s.pump i) ∧
    let u := s.enterLocking
    { u with motion := s.motion, window := s.window } = s ∧
    u.motion.pair = { s.motion.pair with state := .locking, interrupted := none, step := none } ∧
    (∀ i, u.leaf i = { s.leaf i with demand := 0 }) ∧
    (∀ i, u.pump i = { s.pump i with state := .off, held := false, timer := none }) ∧
    (∀ k, u.lock k = { s.lock k with
      held := false, stroke := if (s.lock k).state = .stroking then (s.lock k).stroke else none }) ∧
    u.window = { s.window with queue := s.window.queue.filter fun r => decide (r.val < 8) }) ∧
  ∀ s : State,
    let p := s.motion.pair
    let is (k : LockId) (st : LockState) : Prop := (s.lock k).state = st
    let lower := ∃ o, s.book.opening = some o ∧ o.state = .lowering
    let seated (i : Side) : Prop := (s.leaf i).seat = true
    let running (i : Side) : Prop := (s.pump i).state = .running
    let both := running .n ∧ running .s
    let fit (k : LockId) (goal : LockState) : Prop := ¬is k .stroking ∧ (s.lock k).stroke = none ∧ ¬is k goal
    let stroke (k : LockId) (d : LockStroke) (held : Bool) : State :=
      s.modLock k fun x => { x with stroke := some d, held := held }
    let asks (k : LockId) (d : LockStroke) : Option State :=
      some (if s.motion.estop then stroke k d true else (stroke k d false).request (lockRequester k))
    let tails (d : LockStroke) (goal : LockState) : Prop :=
      (fit .tailN goal → pairReaction s = asks .tailN d) ∧
      (¬fit .tailN goal → fit .tailS goal → pairReaction s = asks .tailS d) ∧
      (¬fit .tailN goal → ¬fit .tailS goal → pairReaction s = none)
    let bolt (d : LockStroke) (goal : LockState) : Prop :=
      (fit .bolt goal → pairReaction s = asks .bolt d) ∧ (¬fit .bolt goal → pairReaction s = none)
    let rests (i : Side) : Prop :=
      (s.pump i).state = .off ∧ (s.pump i).held = false ∧ pumpRequester i ∉ s.window.queue
    let starts (i : Side) : Option State :=
      some (if s.motion.estop then s.modPump i fun x => { x with held := true }
        else (s.modPump i fun x => { x with held := false }).request (pumpRequester i))
    let pumps (on : Side → Prop) : Prop :=
      (rests .n ∧ on .n → pairReaction s = starts .n) ∧
      (¬(rests .n ∧ on .n) → rests .s ∧ on .s → pairReaction s = starts .s) ∧
      (¬(rests .n ∧ on .n) → ¬(rests .s ∧ on .s) → pairReaction s = none)
    (p.state = .locked →
      let raise (o : Opening) : Prop := s.book.opening = some o ∧
        (o.state = .raising ∨ o.state = .shipping ∨ o.state = .lastCall)
      let secured := ∀ l, (s.lane l).present = true → ((s.lane l).state = .closed ∨ (s.lane l).state = .held) ∧
        ((s.lane l).kind = .tram → (s.lane l).count = 0)
      let calm := s.wind.valid = true ∧ s.wind.reading < s.cfg Entry.windStart
      let faulted (h : HeadNo) : Prop :=
        ∃ c a, (s.channel c).assignment = some a ∧ a.head = h ∧ (s.channel c).state = .failedStuck
      let may := secured ∧ calm ∧ s.motion.estop = false ∧ ¬faulted 4 ∧ ¬faulted 5
      let v := s.enterPair .unlocking
      (∀ o, raise o → may → pairReaction s = some { v with motion := { v.motion with
        pair := { v.motion.pair with target := some o.target } } }) ∧
      (¬((∃ o, raise o) ∧ may) → pairReaction s = none)) ∧
    (p.state = .unlocking → ¬lower →
      ((∀ k, is k .withdrawn) → pairReaction s = some (s.enterPair .free)) ∧
      (¬is .bolt .withdrawn → bolt .withdraw .withdrawn) ∧
      (is .bolt .withdrawn → ¬(∀ k, is k .withdrawn) → tails .withdraw .withdrawn)) ∧
    (p.state = .unlocking → lower →
      let asked := ∃ k, ¬is k .stroking ∧
        ((s.lock k).stroke ≠ none ∨ (s.lock k).held = true ∨ lockRequester k ∈ s.window.queue)
      (asked → ∃ u : State, pairReaction s = some u ∧ { u with motion := s.motion, window := s.window } = s ∧
        u.motion.pair = p ∧ (∀ i, u.pump i = s.pump i) ∧
        (∀ k, lockRequester k ∉ u.window.queue ∧ u.lock k = { s.lock k with
          held := false, stroke := if (s.lock k).state = .stroking then (s.lock k).stroke else none })) ∧
      (¬asked → (∃ k, is k .stroking) → pairReaction s = none) ∧
      (¬asked → ¬(∃ k, is k .stroking) → pairReaction s = some s.enterLocking)) ∧
    (p.state = .free ∨ (p.state = .starting ∧ p.interrupted = none) →
      (lower → pairReaction s = some s.enterLocking) ∧
      (¬lower → both → pairReaction s = some (s.enterPair .raising)) ∧
      (¬lower → ¬both → pumps fun _ => True)) ∧
    (∀ kept, p.state = .starting → p.interrupted = some kept →
      let turns := lower ∧ (kept = .raising ∨ kept = .isOpen)
      (turns → pairReaction s = some { s with motion := { s.motion with
        pair := { p with interrupted := some .lowering } } }) ∧
      (¬turns → both → pairReaction s = some (s.enterPair kept)) ∧
      (¬turns → ¬both → pumps fun _ => True)) ∧
    (p.state = .raising ∨ p.state = .isOpen →
      (lower → pairReaction s = some (s.enterPair .lowering)) ∧ (¬lower → pairReaction s = none)) ∧
    (p.state = .lowering ∨ p.state = .seating ∨ p.state = .recovering → seated .n → seated .s →
      pairReaction s = some s.enterLocking) ∧
    (p.state = .lowering ∨ p.state = .seating → ¬(seated .n ∧ seated .s) → pairReaction s = none) ∧
    (p.state = .locking →
      ((∀ k, is k .driven) → ∃ u : State, pairReaction s = some u ∧
        { u with motion := { u.motion with pair := { u.motion.pair with target := p.target } } } =
          s.enterPair .locked ∧ u.motion.pair.target = none) ∧
      (¬(is .tailN .driven ∧ is .tailS .driven) → tails .drive .driven) ∧
      (is .tailN .driven → is .tailS .driven → ¬is .bolt .driven → bolt .drive .driven)) ∧
    (p.state = .recovering → ¬(seated .n ∧ seated .s) →
      let step (r : RecoveryStep) : Motion := { s.motion with pair := { p with step := some r } }
      let away (k : LockId) : Prop := is k .withdrawn
      let readied := away .bolt ∧ (seated .n ∨ away .tailN) ∧ (seated .s ∨ away .tailS)
      (p.step = some .withdraw →
        (readied → pairReaction s = some { s with motion := step .start }) ∧
        (¬away .bolt → bolt .withdraw .withdrawn) ∧
        (away .bolt → ¬readied →
          (¬seated .n → fit .tailN .withdrawn → pairReaction s = asks .tailN .withdraw) ∧
          (seated .n ∨ ¬fit .tailN .withdrawn → ¬seated .s → fit .tailS .withdrawn →
            pairReaction s = asks .tailS .withdraw) ∧
          (seated .n ∨ ¬fit .tailN .withdrawn → seated .s ∨ ¬fit .tailS .withdrawn → pairReaction s = none))) ∧
      (p.step = some .start →
        ((∀ i, seated i ∨ running i) →
          pairReaction s = some { s with motion := { step .creep with rampBase := 0 } }) ∧
        (¬(∀ i, seated i ∨ running i) → pumps fun i => ¬seated i)) ∧
      (p.step = some .creep → pairReaction s = none)) ∧
    (p.state = .fault → pairReaction s = none)

/-- RESUME is refused while the E-stop is active, and of a HALTED pair while CHANNEL is in the set, WIND is with the
wind not calm, or ROAD is with the road not secured; otherwise it is taken. A HALTED pair then resumes, its motion
controller and its lock and pump requests being those of `State.resumePair` (O46 says what they are), with no cause
left; any other pair stays as it is. Every barrier group with a held stroke requests it: down always, up only where the
pair, as resumed, is LOCKED; its held stroke becomes absent and it awaits its grant, the requests joining the barrier
class in group number order. Every other group, and every lane, stays as it is. -/
def Obligations.ResumeIsTakenWhenEveryCauseClears : Prop :=
  ∀ s : State, s.alive = true →
    let h := s.motion.pair.halts
    let stands := h.channel = true ∨ (h.wind = true ∧ s.windCalm = false) ∨ (h.road = true ∧ s.roadSecured = false)
    (s.motion.estop = true ∨ (s.motion.pair.state = .halted ∧ stands) →
      exec .resume s = .next (s.refuse .notPermitted)) ∧
    (s.motion.estop = false → ¬(s.motion.pair.state = .halted ∧ stands) →
      let v : State := if s.motion.pair.state = .halted then s.resumePair else s
      let resumes (g : GroupNo) : Prop := (s.group g).heldStroke = some .down ∨
        ((s.group g).heldStroke = some .up ∧ v.motion.pair.state = .locked)
      let joins : List GroupNo := (List.finRange 8).filter fun g =>
        decide (groupRequester g ∉ v.window.queue) &&
          ((s.group g).heldStroke == some .down ||
            ((s.group g).heldStroke == some .up && v.motion.pair.state == .locked))
      ∃ u : State, exec .resume s = .next (u.finish.accept) ∧
        { u with motion := s.motion, road := s.road, window := s.window } = s ∧ u.motion = v.motion ∧
        (s.motion.pair.state = .halted → s.motion.pair.interrupted ≠ some .halted →
          u.motion.pair.halts = HaltSet.empty ∧ u.motion.pair.channelTimer = none ∧ u.motion.pair.state ≠ .halted) ∧
        { u.road with groups := s.road.groups } = s.road ∧
        (∀ g, ((s.group g).heldStroke = some .down →
            u.group g = { s.group g with state := .awaitDown, clearTimer := none, heldStroke := none }) ∧
          ((s.group g).heldStroke = some .up → v.motion.pair.state = .locked →
            u.group g = { s.group g with state := .awaitUp, clearTimer := none, heldStroke := none }) ∧
          (resumes g → groupRequester g ∈ u.window.queue) ∧
          (¬resumes g → u.group g = s.group g ∧
            (groupRequester g ∈ u.window.queue ↔ groupRequester g ∈ s.window.queue))) ∧
        { u.window with queue := v.window.queue, asked := v.window.asked } = v.window ∧
        (u.window.queue.filter fun r => decide (8 ≤ r.val)) = (v.window.queue.filter fun r => decide (8 ≤ r.val)) ∧
        (s.window.asked = [] → queueOk s.window.queue →
          (u.window.queue.filter fun r => decide (r.val < 8)) =
            (s.window.queue.filter fun r => decide (r.val < 8)) ++ joins.map groupRequester))


/-- The halts: the first of ESTOP, WIND, CHANNEL and ROAD whose condition holds for the state whose rules hold, and
that is not in the set, halts the pair or joins the set; MOTION_HALTED is raised. Entering HALTED keeps that state as
the interrupted one, takes the demands to 0 (the pair demand of the period record and the ramp base too, by R149 and
R146 with log entry 26) and makes every standing lock or pump request HELD; ESTOP switches the pumps off with a held
request. A lower demand removes WIND. A resumption empties the set and enters the state of the table (FREE with both
pumps OFF is log entry 47), by way of STARTING where a pump must run first; every HELD request that the state entered
wants becomes STANDING, every other NONE. -/
def Obligations.HaltsStopThePairAndResumptionGoesOn : Prop :=
  (∀ s : State,
    let p := s.motion.pair
    let e := if p.state = .halted ∨ p.state = .starting then p.interrupted.getD p.state else p.state
    let lower := ∃ o, s.book.opening = some o ∧ o.state = .lowering
    let above (i : Side) : Prop := ∀ a, s.leafAngle i = some a → s.cfg Entry.beamGuardAngle < a
    let estops := (s.motion.estop = true ∧ e ≠ .locked ∧ e ≠ .halted ∧ e ≠ .fault) ∧ p.halts.estop = false
    let winds := (e = .raising ∧ (s.wind.valid = false ∨ s.cfg Entry.windStop ≤ s.wind.reading) ∧ ¬lower) ∧
      p.halts.wind = false
    let channels := (s.beam.filtered = true ∧ (above .n ∨ above .s) ∧
      (e = .lowering ∨ e = .seating ∨ e = .recovering)) ∧ p.halts.channel = false
    let roads := (s.roadSecured = false ∧ (e = .unlocking ∨ e = .free ∨ e = .starting ∨ e = .raising)) ∧
      p.halts.road = false
    (estops → haltReaction s = some (s.halt .estop)) ∧
    (¬estops → winds → haltReaction s = some (s.halt .wind)) ∧
    (¬estops → ¬winds → channels → haltReaction s = some (s.halt .channel)) ∧
    (¬estops → ¬winds → ¬channels → roads → haltReaction s = some (s.halt .road)) ∧
    (¬estops → ¬winds → ¬channels → ¬roads → haltReaction s = none) ∧
    (p.state = .halted →
      let v : State := { s with motion := { s.motion with pair := { p with halts := { p.halts with wind := false } } } }
      (p.halts.wind = true ∧ lower → pairReaction s =
        some (if { p.halts with wind := false } = HaltSet.empty then v.resumePair else v)) ∧
      (¬(p.halts.wind = true ∧ lower) → pairReaction s = none)) ∧
    ∀ c : HaltCause, let u := s.halt c
      { u with motion := s.motion, window := s.window, link := s.link } = s ∧
      u.link = { s.link with factors := s.link.factors ||| 0x0400 } ∧
      (∀ i, c = .estop → (s.pump i).state ≠ .off →
        u.pump i = { s.pump i with state := .off, timer := none, held := true }) ∧
      (p.state = .halted → u.window = s.window ∧ u.motion.pair = { p with halts := p.halts.add c } ∧
        (∀ k, u.lock k = s.lock k) ∧ (∀ i, u.leaf i = s.leaf i) ∧ u.motion.period = s.motion.period ∧
        u.motion.rampBase = s.motion.rampBase ∧
        ∀ i, c ≠ .estop ∨ (s.pump i).state = .off → u.pump i = s.pump i) ∧
      (p.state ≠ .halted →
        u.motion.pair = { p with state := .halted, interrupted := some e, halts := HaltSet.empty.add c } ∧
        (∀ i, u.leaf i = { s.leaf i with demand := 0 }) ∧
        u.motion.period = { s.motion.period with pairDemand := 0 } ∧ u.motion.rampBase = 0 ∧
        (∀ k, u.lock k = if lockRequester k ∈ s.window.queue then { s.lock k with held := true } else s.lock k) ∧
        (∀ i, c ≠ .estop ∨ (s.pump i).state = .off →
          u.pump i = if pumpRequester i ∈ s.window.queue then { s.pump i with held := true } else s.pump i) ∧
        u.window = { s.window with queue := s.window.queue.filter fun r => decide (r.val < 8) })) ∧
  ∀ s : State,
    let p := s.motion.pair
    let lower := ∃ o, s.book.opening = some o ∧ o.state = .lowering
    let running (i : Side) : Prop := (s.pump i).state = .running
    let seated (i : Side) : Prop := (s.leaf i).seat = true
    let inWay (k : LockId) : Prop := match k with
      | .bolt => ¬(seated .n ∧ seated .s)
      | .tailN => ¬seated .n
      | .tailS => ¬seated .s
    let u := s.resumePair
    let q := u.motion.pair
    let enters (st : PairState) : Prop := q.state = st ∧ q.interrupted = none
    let locks := lower ∧ (p.interrupted = some .free ∨ p.interrupted = some .starting)
    { u with motion := s.motion, window := s.window } = s ∧ q.halts = HaltSet.empty ∧ q.channelTimer = none ∧
    u.motion.rampBase = 0 ∧ (∀ r : Requester, r.val < 8 → (r ∈ u.window.queue ↔ r ∈ s.window.queue)) ∧
    (p.interrupted = some .unlocking → enters .unlocking) ∧ (p.interrupted = some .locking → enters .locking) ∧
    (locks → enters .locking ∧ (∀ i, u.pump i = { s.pump i with state := .off, held := false, timer := none }) ∧
      ∀ k, u.lock k = { s.lock k with
        held := false, stroke := if (s.lock k).state = .stroking then (s.lock k).stroke else none }) ∧
    (¬lower → p.interrupted = some .free ∨ p.interrupted = some .starting →
      ((∀ i, (s.pump i).state = .off) → enters .free) ∧ (¬(∀ i, (s.pump i).state = .off) → enters .starting)) ∧
    (∀ st, p.interrupted = some st → (st = .raising ∨ st = .isOpen ∨ st = .lowering ∨ st = .seating) →
      ∃ goal, (lower → st ≠ .seating → goal = .lowering) ∧ (¬lower ∨ st = .seating → goal = st) ∧
        (running .n → running .s → enters goal) ∧
        (¬(running .n ∧ running .s) → q.state = .starting ∧ q.interrupted = some goal)) ∧
    (p.interrupted = some .recovering → enters .recovering ∧
      (p.step = some .creep → ¬(∀ i, seated i ∨ running i) → q.step = some .start) ∧
      (p.step ≠ some .creep ∨ (∀ i, seated i ∨ running i) → q.step = p.step)) ∧
    (¬locks →
      (∀ k, ((s.lock k).held = false → u.lock k = s.lock k) ∧
        ((s.lock k).held = true →
          let wanted := (q.state = .unlocking ∧ (s.lock k).stroke = some .withdraw) ∨
            (q.state = .locking ∧ (s.lock k).stroke = some .drive) ∨
            (q.state = .recovering ∧ q.step = some .withdraw ∧ inWay k ∧ (s.lock k).stroke = some .withdraw)
          (wanted → u.lock k = { s.lock k with held := false } ∧ lockRequester k ∈ u.window.queue) ∧
          (¬wanted → lockRequester k ∉ u.window.queue ∧ u.lock k = { s.lock k with
            held := false, stroke := if (s.lock k).state = .stroking then (s.lock k).stroke else none }))) ∧
      ∀ i, ((s.pump i).held = false → u.pump i = s.pump i) ∧
        ((s.pump i).held = true → u.pump i = { s.pump i with held := false } ∧
          (pumpRequester i ∈ u.window.queue ↔
            ((q.state = .free ∨ q.state = .starting) ∧ ¬running i) ∨
            (q.state = .recovering ∧ q.step = some .start ∧ ¬seated i ∧ ¬running i))))

/-- The E-stop's filter: a raw change starts its 20 ms anew (it does not run while the raw level is the filtered one,
log entry 33). Its turn to ACTIVE empties the Start Window's queue, makes every request of a lock, pump or group a
held one, stops the arms that move with their strokes held, and raises E_STOP; its turn to RELEASED changes only the
filtered state. The channel-clear timer's end takes CHANNEL from the halt causes of a pair whom other causes keep
HALTED. (A change to the level shown already changes nothing, log entry 5.) -/
def Obligations.EstopHoldsEveryStart : Prop :=
  ∀ s : State, s.alive = true →
    (∀ b, exec (.estopInputChange b) s = .next
      (if s.motion.estopRaw = b then s
       else { s with motion := { s.motion with
         estopRaw := b
         estopTimer := if b = s.motion.estop then none else some (s.clock.now + 20) } })) ∧
    (∀ due, s.motion.estopTimer = some due →
      (s.motion.estopRaw = true → s.motion.estop = false → ∃ u : State, exec .estopActive s = .next u.finish ∧
        u.clock = { s.clock with now := max s.clock.now due } ∧
        { u with clock := s.clock, motion := s.motion, road := s.road, window := s.window, link := s.link } = s ∧
        u.motion.estop = true ∧ u.motion.estopTimer = none ∧ u.motion.pair = s.motion.pair ∧
        u.window = { s.window with queue := [] } ∧ u.link = { s.link with factors := s.link.factors ||| 0x1000 } ∧
        (∀ k, u.lock k = if lockRequester k ∈ s.window.queue then { s.lock k with held := true } else s.lock k) ∧
        (∀ i, u.pump i = if pumpRequester i ∈ s.window.queue then { s.pump i with held := true } else s.pump i) ∧
        u.road.lanes = s.road.lanes ∧
        ∀ g, u.group g = match (s.group g).state with
          | .goingDown => { s.group g with state := .stopped, strokeTimer := none, heldStroke := some .down }
          | .goingUp => { s.group g with state := .stopped, strokeTimer := none, heldStroke := some .up }
          | .awaitDown => { s.group g with heldStroke := some .down }
          | .awaitUp => { s.group g with heldStroke := some .up }
          | _ => s.group g) ∧
      (s.motion.estopRaw = false → s.motion.estop = true → exec .estopReleased s = .next (State.finish
        { s.reach due with motion := { s.motion with estop := false, estopTimer := none } }))) ∧
    ∀ due, s.motion.pair.channelTimer = some due →
      let left := { s.motion.pair.halts with channel := false }
      (s.motion.pair.state ≠ .halted ∨ left ≠ HaltSet.empty → exec .channelClearExpiry s = .next (State.finish
        { s.reach due with motion := { s.motion with pair :=
          { s.motion.pair with halts := left, channelTimer := none } } })) ∧
      (s.motion.pair.state = .halted → left = HaltSet.empty → exec .channelClearExpiry s = .next (State.finish
        (State.resumePair { s.reach due with motion := { s.motion with pair :=
          { s.motion.pair with halts := left, channelTimer := none } } })))

/-- A motion period: its timer runs again, the angle stage gives a state and the demand stage goes on from it. The
angle stage takes the period's number, the counts sampled, the angle of each valid count rounded to the nearest
centidegree, and the skew of two angles, with the lead leaf and limits absent and every demand 0; an angle above
ANGLE_FULL + 100 trips the pair out of any state but FAULT, and the skew-warning flag follows SKEW_WARN, raising
SKEW_WARNING as it is set. In a state that does not move the leaves the demand stage does nothing more. (The clock at
the expiry is log entry 1.) -/
def Obligations.MotionPeriodRunsItsTwoStages : Prop :=
  ∀ (s : State) (due : Nat), s.alive = true → s.motion.periodTimer = some due →
    let angle (x : Leaf) (full : Nat) : Option Nat :=
      if x.countValid then some ((x.count * s.cfg Entry.angleFull + full / 2) / full) else none
    let a := angle s.motion.leafN (s.cfg Entry.countsFullN)
    let b := angle s.motion.leafS (s.cfg Entry.countsFullS)
    let skew := match a, b with
      | some x, some y => some (max x y - min x y)
      | _, _ => none
    let beyond := ∃ x, (a = some x ∨ b = some x) ∧ s.cfg Entry.angleFull + 100 < x
    let trips := beyond ∧ s.motion.pair.state ≠ .fault
    let warn := ∃ e, skew = some e ∧ s.cfg Entry.skewWarn ≤ e
    ∃ v : State, exec .motionPeriod s = .next (State.finish v.demandStage) ∧
      v.clock = { s.clock with now := max s.clock.now due } ∧ v.motion.periodTimer = some (due + 20) ∧
      v.motion.period = {
        number := s.motion.period.number + 1, countN := s.motion.leafN.count, countS := s.motion.leafS.count
        angleN := a, angleS := b, skew := skew, lead := none, limits := none, pairDemand := 0, correction := 0 } ∧
      v.motion.leafN = { s.motion.leafN with demand := 0 } ∧ v.motion.leafS = { s.motion.leafS with demand := 0 } ∧
      (v.motion.pair.skewWarning = true ↔ warn) ∧
      (warn → s.motion.pair.skewWarning = false → v.link.factors.getLsbD 8 = true) ∧
      (trips → v.motion.pair.state = .fault ∧ v.motion.pair.cause = some .overtravel ∧
        v.link.factors.getLsbD 9 = true) ∧
      (¬trips → { v.motion.pair with skewWarning := s.motion.pair.skewWarning } = s.motion.pair ∧
        v.motion.rampBase = s.motion.rampBase ∧ v.window = s.window ∧ (∀ k, v.lock k = s.lock k) ∧
        ∀ i, v.pump i = s.pump i) ∧
      { v with clock := s.clock, motion := s.motion, window := s.window, link := s.link } = s ∧
      (v.motion.pair.state ≠ .raising → v.motion.pair.state ≠ .lowering → v.motion.pair.state ≠ .seating →
        ¬(v.motion.pair.state = .recovering ∧ v.motion.pair.step = some .creep) → v.demandStage = v)

/-- The demand stage, which a motion period runs on the angle stage's state, with both counts valid, in RAISING,
LOWERING, SEATING and RECOVERING in step CREEP: a skew at SKEW_TRIP trips the pair; RAISING with both leaves in the
10 cdeg band of the target becomes OPEN; LOWERING with the larger angle in the creep zone becomes SEATING. Otherwise
the distance limit is R144's table at the lag leaf's distance (CREEP_SPEED in SEATING and RECOVERING), the wind limit
R145's, the pair demand rises from the ramp base by RAMP_STEP at most and never above the smaller limit; the lead
leaf's demand is less by floor(e x SKEW_GAIN / 16) and not below 0, a leaf that is not driven has demand 0, and the
ramp base is the pair demand. The record's correction is kept at 1000 at most, which changes no demand (log entry
41); a period that trips or enters OPEN records no lead leaf and no limits (log entry 42). With a count that is not
valid, in RECOVERING in step CREEP, there is no skew, no trip and no correction, the lead leaf is NONE, and every
unseated leaf gets the pair demand. -/
def Obligations.DemandStageDrivesTheLeaves : Prop :=
  (∀ (s : State) (target a b e : Nat),
    (s.motion.pair.state = .raising ∨ s.motion.pair.state = .lowering ∨ s.motion.pair.state = .seating ∨
      (s.motion.pair.state = .recovering ∧ s.motion.pair.step = some .creep)) →
    (s.motion.pair.state = .raising → s.motion.pair.target = some target) →
    s.motion.period.angleN = some a → s.motion.period.angleS = some b → s.motion.period.skew = some e →
    let raising := s.motion.pair.state = .raising
    let creep := s.cfg Entry.creepSpeed
    let zone := s.cfg Entry.creepZone
    let span := s.cfg Entry.slowdownSpan
    let toSeating := s.motion.pair.state = .lowering ∧ max a b ≤ zone
    let nDriven := if raising then a + 10 < target else s.motion.leafN.seat = false
    let sDriven := if raising then b + 10 < target else s.motion.leafS.seat = false
    let nLeads := if raising then b < a else a < b
    let lead : Lead := if nDriven ∧ sDriven ∧ a ≠ b then (if nLeads then .n else .s) else .both
    let lag := match lead with
      | .n => b
      | .s => a
      | .both => if nDriven then a else b
    let dist := if raising then max target lag - min target lag else lag
    let distLimit :=
      if raising ∨ (s.motion.pair.state = .lowering ∧ ¬toSeating) then
        if dist ≤ zone then creep else if zone + span ≤ dist then 1000
        else creep + (1000 - creep) * (dist - zone) / span
      else creep
    let wind := s.wind.reading
    let windLimit :=
      if s.wind.valid = false ∨ s.cfg Entry.windStop ≤ wind then 400
      else if wind ≤ s.cfg Entry.windDerate then 1000
      else 1000 - 600 * (wind - s.cfg Entry.windDerate) / (s.cfg Entry.windStop - s.cfg Entry.windDerate)
    let d := min (min distLimit windLimit) (s.motion.rampBase + s.cfg Entry.rampStep)
    let cor := if lead = .both then 0 else min 1000 (e * s.cfg Entry.skewGain / 16)
    (s.cfg Entry.skewTrip ≤ e → s.demandStage = s.enterFault .skewTrip) ∧
    (e < s.cfg Entry.skewTrip → raising → ¬nDriven → ¬sDriven → s.demandStage = s.enterPair .isOpen) ∧
    (e < s.cfg Entry.skewTrip → ¬(raising ∧ ¬nDriven ∧ ¬sDriven) →
      s.demandStage = { s with motion := { s.motion with
        pair := if toSeating then { s.motion.pair with state := .seating } else s.motion.pair
        rampBase := d
        leafN := { s.motion.leafN with demand := if nDriven then (if lead = .n then d - cor else d) else 0 }
        leafS := { s.motion.leafS with demand := if sDriven then (if lead = .s then d - cor else d) else 0 }
        period := { s.motion.period with
          lead := some lead
          limits := some { dist := distLimit, wind := windLimit, limit := min distLimit windLimit }
          pairDemand := d
          correction := cor } } })) ∧
  ∀ s : State, s.motion.pair.state = .recovering → s.motion.pair.step = some .creep →
    s.motion.period.angleN = none ∨ s.motion.period.angleS = none → s.motion.period.skew = none →
    let creep := s.cfg Entry.creepSpeed
    let wind := s.wind.reading
    let windLimit :=
      if s.wind.valid = false ∨ s.cfg Entry.windStop ≤ wind then 400
      else if wind ≤ s.cfg Entry.windDerate then 1000
      else 1000 - 600 * (wind - s.cfg Entry.windDerate) / (s.cfg Entry.windStop - s.cfg Entry.windDerate)
    let d := min (min creep windLimit) (s.motion.rampBase + s.cfg Entry.rampStep)
    s.demandStage = { s with motion := { s.motion with
      rampBase := d
      leafN := { s.motion.leafN with demand := if s.motion.leafN.seat then 0 else d }
      leafS := { s.motion.leafS with demand := if s.motion.leafS.seat then 0 else d }
      period := { s.motion.period with
        lead := some .both
        limits := some { dist := creep, wind := windLimit, limit := min creep windLimit }
        pairDemand := d
        correction := 0 } } }

/-! ### Wind, Start Window -/

/-- The pulse filter: from IDLE the input's turn to active starts 1 ms, a turn to inactive returns it to IDLE, and the
end of the 1 ms counts a pulse, up to 4,095 in one gate. Every 3 s a gate ends: its value, floor(pulses x WIND_FACTOR
/ 64) and at most 600, joins the last four, the counter begins again at 0, and WIND_HIGH is raised as a valid reading
passes from below WIND_START to it or above. (A change to the level shown already changes nothing, log entry 5.) -/
def Obligations.WindIsCountedInGates : Prop :=
  ∀ s : State, s.alive = true →
    let w := s.wind
    (∀ active, exec (.anemometerInputChange active) s = .next
      (if w.raw = active then s
       else { s with wind := match w.filter, active with
         | .idle, true => { w with raw := true, filter := .qualifying, pulseTimer := some (s.clock.now + 1) }
         | .qualifying, false => { w with raw := false, filter := .idle, pulseTimer := none }
         | .counted, false => { w with raw := false, filter := .idle, pulseTimer := none }
         | _, _ => { w with raw := active } })) ∧
    (∀ due, w.filter = .qualifying → w.pulseTimer = some due → exec .anemometerPulse s =
      .next { s.reach due with wind := { w with
        filter := .counted, pulseTimer := none, counter := min 4095 (w.counter + 1) } }) ∧
    ∀ due, w.gateTimer = some due →
      let value := min 600 (w.counter * s.cfg Entry.windFactor / 64)
      let gates := (if w.gates.length < 4 then w.gates else w.gates.drop 1) ++ [value]
      let high := gates.length = 4 ∧ ∃ g ∈ gates, s.cfg Entry.windStart ≤ g
      ∃ u : State, exec .gateExpiry s = .next u.finish ∧
        u.clock = { s.clock with now := max s.clock.now due } ∧
        { u with clock := s.clock, wind := w, link := s.link } = s ∧
        u.wind.gates = gates ∧ u.wind.counter = 0 ∧ u.wind.gateTimer = some (due + 3000) ∧ u.wind.raw = w.raw ∧
        u.wind.filter = w.filter ∧ u.wind.pulseTimer = w.pulseTimer ∧
        (0 < s.cfg Entry.windStart → (u.wind.high = true ↔ high) ∧
          (high → w.high = false → u.link.factors.getLsbD 11 = true) ∧
          (¬high ∨ w.high = true → u.link = s.link))

/-- A grant is made, in any act by its reaction and at the event START_GRANT, while the queue is not empty and the
list holds fewer than START_LIMIT grants, and else none: the head of the queue leaves it, the list takes its entry
with the millisecond up-time, and the requester begins its start in the act: a group that waits begins its stroke, a
lock strokes with its timer, a pump starts with its timer. Where no grant can be made the event does nothing (log
entry 5). A grant leaves the list when its age, the millisecond up-time less its stamp modulo 2^32, reaches
START_WINDOW: the event takes the clock to the moment at which the oldest grant does, and every grant so old leaves in
the act, the others staying in their order. -/
def Obligations.GrantsAreMadeFromTheHeadAndAgeOut : Prop :=
  (∀ s : State,
     (s.window.queue = [] ∨ s.cfg Entry.startLimit ≤ s.window.grants.length →
       grantReaction s = none ∧ (s.alive = true → exec .startGrant s = .next s)) ∧
     ∀ r rest, s.window.queue = r :: rest → s.window.grants.length < s.cfg Entry.startLimit →
       ∃ u : State, grantReaction s = some u ∧ (s.alive = true → exec .startGrant s = .next u.finish) ∧
         u.window = { s.window with
           queue := rest
           grants := s.window.grants ++ [{ stamp := BitVec.ofNat 32 s.clock.now, requester := r }] } ∧
         { u with window := s.window, road := s.road, motion := s.motion } = s ∧
         (∀ g : GroupNo, r = groupRequester g → u.motion = s.motion ∧ u.road.lanes = s.road.lanes ∧
           (∀ h, h ≠ g → u.group h = s.group h) ∧
           let stroke := some (s.clock.now + 1000 * s.cfg Entry.barrierStrokeTimeout)
           ((s.group g).state = .awaitDown →
             u.group g = { s.group g with state := .goingDown, strokeTimer := stroke }) ∧
           ((s.group g).state = .awaitUp →
             u.group g = { s.group g with state := .goingUp, strokeTimer := stroke })) ∧
         (∀ k, r = lockRequester k → u.road = s.road ∧ (∀ j, j ≠ k → u.lock j = s.lock j) ∧
           ((s.lock k).stroke = some .withdraw →
             u.lock k = if (s.lock k).withdrawnSwitch ∧ ¬(s.lock k).drivenSwitch then
                 { s.lock k with state := .withdrawn, stroke := none, held := false, timer := none }
               else { s.lock k with
                 state := .stroking, held := false
                 timer := some (s.clock.now + 1000 * s.cfg Entry.lockStrokeTimeout) }) ∧
           ((s.lock k).stroke = some .drive →
             u.lock k = if (s.lock k).drivenSwitch ∧ ¬(s.lock k).withdrawnSwitch then
                 { s.lock k with state := .driven, stroke := none, held := false, timer := none }
               else { s.lock k with
                 state := .stroking, held := false
                 timer := some (s.clock.now + 1000 * s.cfg Entry.lockStrokeTimeout) })) ∧
         ∀ i, r = pumpRequester i → u.road = s.road ∧ (∀ j, j ≠ i → u.pump j = s.pump j) ∧
           u.pump i = (if (s.pump i).runningInput then { s.pump i with state := .running, held := false, timer := none }
             else { s.pump i with
               state := .starting, held := false
               timer := some (s.clock.now + 1000 * s.cfg Entry.pumpStartTimeout) }) ∧
           (s.motion.pair.state = .free → u.motion.pair.state = .starting) ∧
           (s.motion.pair.state ≠ .free → u.motion.pair = s.motion.pair)) ∧
  (∀ (s : State) (g : Grant) (rest : List Grant), s.alive = true → s.window.grants = g :: rest →
     let window := 1000 * s.cfg Entry.startWindow
     let age (now : Nat) (x : Grant) : Nat := (BitVec.ofNat 32 now - x.stamp).toNat
     let now := s.clock.now + (window - age s.clock.now g)
     exec .grantAgeOut s = .next (State.finish { s with
       clock := { s.clock with now := now }
       window := { s.window with grants := (g :: rest).filter fun x => decide (age now x < window) } }))

/-! ### The site table -/

/-- WRITE SITE ENTRY: the value kept is the value given brought into the entry's range, or as given for a lane or
channel entry; the tests come in the order of R176 (rest, a lane held down, names that exist, a hold, the relations, a
group brought into use or too many grants in the list), and a refusal changes nothing but the response. A write taken
places the value in the working copy, leaves every other entry and the stored copy, sets the unstored flag where the
value changed, marks a store in progress that it overtakes, and answers the entry and the value kept. The tests of rest,
of holds and of groups brought into use are spelled out for every state and table; those of names and relations are in
O56. -/
def Obligations.WriteSiteEntryKeepsTheTableConsistent : Prop :=
  (∀ s : State, s.atRest = true ↔
    s.book.opening = none ∧ s.motion.pair.state = .locked ∧
    (∀ l g, (s.lane l).present = true → (s.lane l).group = some g →
      (s.group g).state = .up ∨ (s.group g).state = .down) ∧
    (∀ l, (s.lane l).present = true → (s.lane l).state ≠ .warning ∧ (s.lane l).state ≠ .clearing ∧
      (s.lane l).state ≠ .securing ∧ (s.lane l).state ≠ .releasing) ∧
    s.site.store = none) ∧
  (∀ (s : State) (new : SiteTable),
    let old := s.site.working
    let differs (l : LaneNo) : Prop := old[Entry.lane l] ≠ new[Entry.lane l]
    let names (t : SiteTable) (l : LaneNo) (g : GroupNo) : Prop :=
      laneKind t[Entry.lane l] ≠ none ∧ laneGroup t[Entry.lane l] = some g
    (s.heldDownBars new = true ↔ ∃ l, differs l ∧ (s.lane l).hold = .holdDown) ∧
    (s.holdBars new = true ↔ ∃ l, differs l ∧ ((s.lane l).hold ≠ .free ∨
      ∃ m g, (s.lane m).present = true ∧ (s.lane m).hold ≠ .free ∧ (s.lane m).group = some g ∧
        (names old l g ∨ names new l g))) ∧
    (s.useBars new = true ↔ ∃ g, (¬∃ l, (s.lane l).present = true ∧ (s.lane l).group = some g) ∧
      (∃ l, names new l g) ∧ (s.group g).state ≠ .up ∧ (s.group g).state ≠ .down)) ∧
  ∀ (s : State) (b : Byte) (e : EntryNo) (v : SiteWord), s.alive = true → b.toNat = e.val →
    let kept := keptValue s.site.working e v
    let new := s.site.working.set e.val kept e.isLt
    let command := Instr.writeSiteEntry b v
    (∀ lo hi, entryRange (s.cfg Entry.angleFull) e = some (lo, hi) → lo ≤ hi → hi < 65536 →
      kept.toNat = max lo (min v.toNat hi)) ∧
    (entryRange (s.cfg Entry.angleFull) e = none → kept = v) ∧
    (e.val < 94 → s.atRest = false → exec command s = .next (s.refuse .busy)) ∧
    ((94 ≤ e.val ∨ s.atRest = true) →
      (s.heldDownBars new = true → exec command s = .next (s.refuse .heldDown)) ∧
      (s.heldDownBars new = false →
        (namesExist e v = false ∨ s.holdBars new = true → exec command s = .next (s.refuse .notPermitted)) ∧
        (namesExist e v = true → s.holdBars new = false →
          (consistent new = false → exec command s = .next (s.refuse .inconsistent)) ∧
          (consistent new = true →
            let late := s.useBars new = true ∨
              (e = Entry.startLimit ∧ SiteTable.num new Entry.startLimit < s.window.grants.length)
            (late → exec command s = .next (s.refuse .busy)) ∧
            (¬late → ∃ t : State, exec command s = .next t ∧
              t.link.response = frame (if kept = v then 0x00 else 0x01)
                (byteOf e.val :: [kept.extractLsb' 8 8, kept.extractLsb' 0 8]) ∧
              t.site = { s.site with
                working := new
                unstored := s.site.unstored || decide (s.site.working[e] ≠ kept)
                store := s.site.store.map fun j => { j with dirty := j.dirty || decide (s.site.working[e] ≠ kept) } } ∧
              t.clock = s.clock ∧ t.book.clearedOrder = s.book.clearedOrder ∧ t.beam = s.beam)))))

/-- STORE SITE TABLE is refused KEY_OFF with the key off, then BUSY out of rest; taken, it takes a copy of the working
copy and completes after 200 ms. At the completion a copy that reads back is the stored copy with its check, GOOD,
and clears the site-invalid flag and, where no write has changed the working copy since, the unstored flag; one that
does not read back leaves FAILED, those flags, and a stored copy whose check does not agree (its contents are a free
value, log entry 8). STORE_DONE is raised by both; with no store in progress the event changes nothing (log entry 5).
LOAD SITE TABLE is tested in the order of R185 (rest, the stored check, grants in the list, a lane held down, a hold,
a group brought into use); taken, the working copy becomes the stored copy and the unstored flag is clear, the stored
copy and the site-invalid flag stay. The key switch is filtered by 100 ms from its last change (not timed while it
shows the filtered position, log entry 33; a change to the position shown already changes nothing, log entry 5). -/
def Obligations.StoreAndLoadCopyTheTable : Prop :=
  (∀ s : State, s.alive = true →
    (s.site.key = false → exec .storeSiteTable s = .next (s.refuse .keyOff)) ∧
    (s.site.key = true → s.atRest = false → exec .storeSiteTable s = .next (s.refuse .busy)) ∧
    (s.site.key = true → s.atRest = true → exec .storeSiteTable s = .next (State.accept { s with site := { s.site with
      store := some { copy := s.site.working, dirty := false, due := s.clock.now + 200 } } })) ∧
    (∀ readsBack, s.site.store = none → exec (.storeCompletion readsBack) s = .next s) ∧
    ∀ j, s.site.store = some j →
      (∃ t : State, exec (.storeCompletion true) s = .next t ∧
        t.clock = { s.clock with now := max s.clock.now j.due } ∧
        t.site = { s.site with
          stored := j.copy, storedCheck := tableCheck j.copy, store := none, lastResult := some .good
          unstored := s.site.unstored && j.dirty, invalid := false } ∧
        t.link.response = s.link.response ∧ t.link.factors.getLsbD 13 = true) ∧
      ∃ t : State, exec (.storeCompletion false) s = .next t ∧
        t.clock = { s.clock with now := max s.clock.now j.due } ∧
        { t.site with stored := s.site.stored, storedCheck := s.site.storedCheck } =
          { s.site with store := none, lastResult := some .failed } ∧
        t.site.agrees = false ∧ t.link.response = s.link.response ∧ t.link.factors.getLsbD 13 = true) ∧
  (∀ s : State, s.alive = true →
    let new := s.site.stored
    let command := Instr.loadSiteTable
    (s.atRest = false → exec command s = .next (s.refuse .busy)) ∧
    (s.atRest = true →
      (tableCheck new ≠ s.site.storedCheck → exec command s = .next (s.refuse .notPermitted)) ∧
      (tableCheck new = s.site.storedCheck →
        (SiteTable.num new Entry.startLimit < s.window.grants.length → exec command s = .next (s.refuse .busy)) ∧
        (s.window.grants.length ≤ SiteTable.num new Entry.startLimit →
          (s.heldDownBars new = true → exec command s = .next (s.refuse .heldDown)) ∧
          (s.heldDownBars new = false → s.holdBars new = true → exec command s = .next (s.refuse .notPermitted)) ∧
          (s.heldDownBars new = false → s.holdBars new = false →
            (s.useBars new = true → exec command s = .next (s.refuse .busy)) ∧
            (s.useBars new = false → ∃ t : State, exec command s = .next t ∧
              t.link.response = frame 0x00 [] ∧ t.site = { s.site with working := new, unstored := false } ∧
              t.clock = s.clock))))) ∧
    (∀ on, exec (.keySwitchInputChange on) s = .next
      (if s.site.keyRaw = on then s
       else { s with site := { s.site with
         keyRaw := on
         keyTimer := if on = s.site.key then none else some (s.clock.now + 100) } })) ∧
    ∀ due, s.site.keyTimer = some due → exec .keySwitchFilterExpiry s =
      .next { s.reach due with site := { s.site with key := s.site.keyRaw, keyTimer := none } })

/-- A write or a load that is taken changes the working copy, and every block acts on the entries changed in the act:
angles are brought into a new range of angles; a lane whose entry changed is set afresh from its group's switches,
with hold NONE, count 0 where its kind or inputs change, and its count and presence figures kept where they do not
(R88's exception to the count 0 of R75 and R179, log entry 20); the inputs it named or names then restart; a changed
channel is GOOD and OFF, out of its test, and at the end of the proving list where it is assigned (several in
number order, the model's choice, log entry 49), and an element that becomes DARK raises HEAD_DARK; grants as old as a
changed START_WINDOW leave; and the wind-high condition is found afresh at a changed WIND_START. Nothing else changes
of it. -/
def Obligations.TableChangesActOnTheBlocks : Prop :=
  ∀ (s : State) (command : Instr) (new : SiteTable), s.alive = true →
    ((∃ (b : Byte) (e : EntryNo) (v : SiteWord), command = .writeSiteEntry b v ∧ b.toNat = e.val ∧
        s.writeRefused e v = none ∧ new = s.site.working.set e.val (keptValue s.site.working e v) e.isLt) ∨
      (command = .loadSiteTable ∧ s.loadRefused = none ∧ new = s.site.stored)) →
    let old := s.site.working
    let differs (e : EntryNo) : Bool := old[e] != new[e]
    let num (e : EntryNo) : Nat := new[e].toNat
    let inputs (w : SiteWord) : List InputNo := match laneKind w with
      | none => []
      | some .tram => [laneInput1 w, laneInput2 w]
      | some _ => [laneInput1 w]
    let moved (l : LaneNo) : Prop := laneKind old[Entry.lane l] ≠ laneKind new[Entry.lane l] ∨
      inputs old[Entry.lane l] ≠ inputs new[Entry.lane l]
    let named (i : InputNo) : Prop :=
      ∃ l, moved l ∧ (i ∈ inputs old[Entry.lane l] ∨ i ∈ inputs new[Entry.lane l])
    let changed (c : ChannelNo) : Bool := differs (Entry.channel c)
    let high := s.wind.valid = true ∧ num Entry.windStart ≤ s.wind.reading
    let young (g : Grant) : Bool :=
      decide ((BitVec.ofNat 32 s.clock.now - g.stamp).toNat < 1000 * num Entry.startWindow)
    ∃ (u : State) (r : Result) (body : List Byte), exec command s = .next (u.finish.respond r body) ∧
      u.site.working = new ∧
      { u with
        site := s.site, book := s.book, road := s.road, detectors := s.detectors, lamps := s.lamps, wind := s.wind
        window := s.window, link := s.link } = s ∧
      { u.book with slots := s.book.slots } = s.book ∧
      (∀ tag, u.passage tag = (s.passage tag).map fun p =>
        if differs Entry.angleFull || differs Entry.angleMinOpening then
          { p with angle :=
            if p.cls = .tow then num Entry.angleFull
            else max (num Entry.angleMinOpening) (min p.angle (num Entry.angleFull)) }
        else p) ∧
      { u.road with lanes := s.road.lanes } = s.road ∧
      (∀ l, differs (Entry.lane l) = false → u.lane l = s.lane l) ∧
      (∀ l, differs (Entry.lane l) = true →
        let w := new[Entry.lane l]
        let x := u.lane l
        let group := if (laneKind w).isSome then laneGroup w else none
        x.present = (laneKind w).isSome ∧ (∀ k, laneKind w = some k → x.kind = k) ∧ x.approach = laneApproach w ∧
        x.role = laneRole w ∧ x.group = laneGroup w ∧ x.input1 = laneInput1 w ∧ x.input2 = laneInput2 w ∧
        x.hold = .free ∧ x.timer = none ∧ x.subPhase = none ∧ x.cause = none ∧
        (∀ g, group = some g → (s.group g).state = .down → x.state = .closed ∧ x.keptClosed = true) ∧
        ((∀ g, group = some g → (s.group g).state ≠ .down) → x.state = .isOpen ∧ x.keptClosed = false) ∧
        (moved l → x.count = 0 ∧ x.duration = 0 ∧ x.durationTimer = none ∧ x.obstructed = false) ∧
        (¬moved l → x.count = (s.lane l).count ∧
          x.duration = (s.lane l).duration ∧ x.durationTimer = (s.lane l).durationTimer ∧
          x.obstructed = (s.lane l).obstructed)) ∧
      (∀ i, ¬named i → u.detector i = s.detector i) ∧
      (∀ i, named i →
        let d := s.detector i
        let role := (u.inputRole i).map Prod.snd
        u.detector i = {
          level := d.level, presence := false
          stability := if role = some .presence ∧ d.level = true then some (s.clock.now + 200) else none
          pulse := .counted
          pulseTimer :=
            if (role = some .entry ∨ role = some .exit) ∧ d.level = false then some (s.clock.now + 40) else none }) ∧
      { u.lamps with
        channels := s.lamps.channels, proving := s.lamps.proving, underTest := s.lamps.underTest
        testTimer := s.lamps.testTimer } = s.lamps ∧
      (∀ c, u.channel c =
        if changed c then { s.channel c with
          assignment := channelAssignment new[Entry.channel c], state := .good, drive := .off, noCurrent := none
          darkCurrent := none }
        else s.channel c) ∧
      u.lamps.proving = s.lamps.proving.filter (fun c => !changed c) ++
        (List.finRange 48).filter (fun c => changed c && (channelAssignment new[Entry.channel c]).isSome) ∧
      (s.lamps.underTest.any changed = true → u.lamps.underTest = none ∧ u.lamps.testTimer = none) ∧
      (s.lamps.underTest.any changed = false →
        u.lamps.underTest = s.lamps.underTest ∧ u.lamps.testTimer = s.lamps.testTimer) ∧
      (∀ h e, e < elementCount h → s.lamps.elementStatus h e ≠ .dark → u.lamps.elementStatus h e = .dark →
        u.link.factors.getLsbD 6 = true) ∧
      u.window = { s.window with
        grants := if differs Entry.startWindow then s.window.grants.filter young else s.window.grants } ∧
      { u.wind with high := s.wind.high } = s.wind ∧
      (differs Entry.windStart = false → u.wind.high = s.wind.high) ∧
      (differs Entry.windStart = true → (u.wind.high = true ↔ high) ∧
        (high → s.wind.high = false → u.link.factors.getLsbD 11 = true))

/-! ### What every step keeps -/

/-- The Start Window keeps its form under every command and event, from any state that has it: class LIFT ahead of
class BARRIER, no requester twice, no more grants in the list than START_LIMIT. A write or a load that would leave
START_LIMIT below the grants in the list is refused, so the site table keeps it too. -/
def Obligations.EveryCommandKeepsTheStartWindow : Prop :=
  ∀ (c : Instr) (s t : State), s.windowOk → exec c s = .next t → t.windowOk

/-- The site table stays fit to work from under every command and event: in range, naming what exists, consistent, in
the working copy, in a copy in course of being stored, and in a stored copy whose check agrees. What fit means is
spelled out: the fields of lane and channel entries lie at their bits; a table is consistent exactly where it meets
the ten relations; an entry names what exists where a present lane's group is 0 to 7 or NONE, and a channel's head and
element are in their lists or it is UNASSIGNED; and the numeric entries have the ranges of the table. -/
def Obligations.EveryCommandKeepsTheSiteTable : Prop :=
  (∀ (c : Instr) (s t : State), s.site.ok → exec c s = .next t → t.site.ok) ∧
  (∀ w : SiteWord,
    let bits (n k : Nat) : Nat := w.toNat / 2 ^ n % 2 ^ k
    laneKind w = (match bits 14 2 with | 0 => none | 1 => some .road | 2 => some .tram | _ => some .foot) ∧
    laneApproach w = (if bits 13 1 = 0 then .north else .south) ∧
    laneRole w = (if bits 12 1 = 0 then .entry else .exit) ∧
    (∀ g : GroupNo, laneGroup w = some g ↔ bits 8 4 = g.val) ∧
    (laneInput1 w).val = bits 4 4 ∧ (laneInput2 w).val = bits 0 4 ∧
    (channelAssignment w = none ↔ 14 ≤ bits 12 4) ∧
    (∀ a, channelAssignment w = some a →
      a.head.val = bits 12 4 ∧ a.element = bits 10 2 ∧ (a.standby = true ↔ bits 9 1 = 1)) ∧
    (∀ l, namesExist (Entry.lane l) w = true ↔ laneKind w = none ∨ bits 8 4 < 8 ∨ bits 8 4 = 15) ∧
    (∀ c, namesExist (Entry.channel c) w = true ↔ bits 12 4 = 15 ∨
      ∃ h : HeadNo, bits 12 4 = h.val ∧ bits 10 2 < elementCount h)) ∧
  (∀ t : SiteTable,
    let n (e : EntryNo) : Nat := t[e].toNat
    let word (l : LaneNo) : SiteWord := t[Entry.lane l]
    let present (l : LaneNo) : Prop := laneKind (word l) ≠ none
    let isTram (l : LaneNo) : Prop := laneKind (word l) = some .tram
    let reads (l : LaneNo) (i : InputNo) : Prop :=
      present l ∧ (laneInput1 (word l) = i ∨ (isTram l ∧ laneInput2 (word l) = i))
    let carries (c : ChannelNo) (a : Assignment) : Prop := channelAssignment t[Entry.channel c] = some a
    consistent t = true ↔
      n 9 < n 10 ∧ n 15 < n 16 ∧ n 16 ≤ n 17 ∧ n 85 ≤ n 86 ∧ n 3 ≤ n 2 ∧ n 13 ≤ n 2 ∧
      (∀ l, present l → ¬isTram l → laneGroup (word l) ≠ none) ∧
      (∀ l m, present l → present m → laneGroup (word l) ≠ none → laneGroup (word l) = laneGroup (word m) →
        laneApproach (word l) = laneApproach (word m) ∧ laneRole (word l) = laneRole (word m)) ∧
      (∀ l, isTram l → laneInput1 (word l) ≠ laneInput2 (word l)) ∧
      (∀ l m i, reads l i → reads m i → l = m) ∧
      (∀ c d a, carries c a → carries d a → c = d) ∧
      ∀ c a, carries c a → 6 ≤ a.head.val → a.standby = false) ∧
  ∀ full : Nat,
    (∀ x ∈ ([
      (0, 1000, 60000), (1, 1000, 60000), (2, 6000, 8800), (4, 1, 50), (5, 20, 200), (6, 50, 800),
      (7, 200, 3000), (8, 0, 255), (9, 50, 500), (10, 100, 1000), (11, 2, 30), (12, 2, 30), (14, 1, 255),
      (15, 50, 250), (16, 60, 300), (17, 60, 400), (30, 3, 10), (31, 4, 30), (32, 5, 120), (33, 4, 30),
      (34, 10, 300), (35, 5, 60), (84, 40, 90), (85, 1, 8), (86, 1, 8), (87, 60, 3600), (88, 120, 1800),
      (89, 0, 900), (90, 20, 300), (91, 5, 60), (92, 2, 20), (93, 1, 6)] :
        List (Nat × Nat × Nat)), ∀ e : EntryNo, e.val = x.1 → entryRange full e = some (x.2.1, x.2.2)) ∧
    entryRange full 3 = some (1500, full) ∧ entryRange full 13 = some (500, full) ∧
    (∀ f, entryRange full (Entry.level f) = some (0, 3)) ∧ (∀ l, entryRange full (Entry.lane l) = none) ∧
    ∀ c, entryRange full (Entry.channel c) = none

/-- The response buffer always holds a frame with its check and a result code and the floor a level; the wind
monitor's figures stay in their bounds, and so do the counts that saturate. -/
def Obligations.EveryCommandKeepsTheBounds : Prop :=
  ∀ (c : Instr) (s t : State), exec c s = .next t →
    (s.link.ok → t.link.ok) ∧ (s.wind.ok → t.wind.ok) ∧ (s.countersOk → t.countersOk)

/-- No command or event makes a tag live twice, a record forget its slot, or the tag 0 live. -/
def Obligations.EveryCommandKeepsThePassageSlots : Prop :=
  ∀ (c : Instr) (s t : State), s.book.slotsOk → exec c s = .next t → t.book.slotsOk

/-- The pair is HALTED exactly while a halt cause is in its set, and in FAULT exactly while it has a fault cause,
under every command and event. -/
def Obligations.EveryCommandKeepsThePairRecord : Prop :=
  ∀ (c : Instr) (s t : State), s.motion.pair.ok → exec c s = .next t → t.motion.pair.ok

/-- The lamp unit hangs together under every command and event: every head has the aspect that the rules ask for, a
channel is driven LIT exactly where its element is wanted lit and it carries the string that the element's status
chooses (a channel just cleared by CLEAR LAMP FAILURE too, log entry 46), TEST exactly while it is under test (a
FAILED_OPEN channel may be, log entry 45), and no channel waits on the proving list while no test runs. An element
that enters DARK by a command that does not start the part afresh leaves HEAD_DARK pending. The aspects asked for are
those of the tables: OUT_OF_SERVICE, PROCEED, PREPARE or PROHIBIT on a shipping head (a pair HALTED out of RECOVERING
asks for no OUT_OF_SERVICE, log entry 44), RED_FLASH, AMBER or DARK on a road warning head, GO or STOP on a tram stop
head, DARK or FLASH on an arm head. An element is GOOD by its main channel, else ON_STANDBY by its standby, else DARK;
a head is FAULTED by a FAILED_STUCK channel; and each aspect lights the elements of its table in its phase. -/
def Obligations.EveryCommandKeepsTheLampUnit : Prop :=
  (∀ (c : Instr) (s t : State), s.lampsOk → exec c s = .next t →
    t.lampsOk ∧
    (mayReset c = false → ∀ h e, e < elementCount h → s.lamps.elementStatus h e ≠ .dark →
      t.lamps.elementStatus h e = .dark → t.link.factors.getLsbD 6 = true)) ∧
  (∀ s : State,
    let state (l : LaneNo) : LaneState := (s.lane l).state
    (∀ (d : Direction) (h : HeadNo), h = (match d with | .seaward => 4 | .landward => 5) →
      let out := s.site.invalid = true ∨ s.motion.pair.state = .fault ∨ s.motion.pair.state = .recovering
      let proceeds := ∃ t p, s.memberIn .proceed = some t ∧ s.passage t = some p ∧ p.direction = d
      let prepares := ∃ t p, s.members.head? = some t ∧ s.passage t = some p ∧ p.status = .called ∧ p.direction = d
      (out → s.aspectFor h = .outOfService) ∧
      (¬out → proceeds → s.aspectFor h = .proceed) ∧
      (¬out → ¬proceeds → prepares → s.aspectFor h = .prepare) ∧
      (¬out → ¬proceeds → ¬prepares → s.aspectFor h = .prohibit)) ∧
    (∀ (a : Approach) (h : HeadNo), h = (match a with | .north => 0 | .south => 1) →
      let entry (l : LaneNo) : Prop :=
        (s.lane l).present = true ∧ (s.lane l).approach = a ∧ (s.lane l).kind ≠ .tram ∧ (s.lane l).role = .entry
      let red := ∃ l, entry l ∧ ((state l = .warning ∧ (s.lane l).subPhase = some .red) ∨ state l = .clearing ∨
        state l = .securing ∨ state l = .closed)
      let amber := ∃ l, entry l ∧ state l = .warning ∧ (s.lane l).subPhase = some .amber
      (red → s.aspectFor h = .redFlash) ∧ (¬red → amber → s.aspectFor h = .amber) ∧
      (¬red → ¬amber → s.aspectFor h = .dark)) ∧
    (∀ (a : Approach) (h : HeadNo), h = (match a with | .north => 2 | .south => 3) →
      let goes := ∀ l, (s.lane l).present = true → (s.lane l).approach = a → (s.lane l).kind = .tram →
        state l = .isOpen
      (goes → s.aspectFor h = .go) ∧ (¬goes → s.aspectFor h = .stop)) ∧
    ∀ (g : GroupNo) (h : HeadNo), h.val = g.val + 6 →
      s.aspectFor h = if (s.group g).state = .up then .dark else .flash) ∧
  (∀ (u : Lamps) (h : HeadNo) (e : Nat),
    let good (standby : Bool) : Prop :=
      ∃ c : ChannelNo, u.channels[c].assignment = some ⟨h, e, standby⟩ ∧ u.channels[c].state = .good
    (good false → u.elementStatus h e = .good) ∧
    (¬good false → good true → u.elementStatus h e = .onStandby) ∧
    (¬good false → ¬good true → u.elementStatus h e = .dark) ∧
    (u.headFaulted h = true ↔
      ∃ c : ChannelNo, ∃ a, u.channels[c].assignment = some a ∧ a.head = h ∧ u.channels[c].state = .failedStuck)) ∧
  ∀ (u : Lamps) (h : HeadNo) (e : Nat),
    let aspect := u.aspects[h]
    let lit := u.wantedLit h e = true
    (aspect = .dark → ¬lit) ∧
    (aspect = .amber → (lit ↔ e = 0)) ∧
    (aspect = .redFlash → (lit ↔ e = if u.phaseB then 2 else 1)) ∧
    (aspect = .go → (lit ↔ e = 1)) ∧
    (aspect = .stop → (lit ↔ e = 0)) ∧
    (aspect = .prohibit → (lit ↔ e = 0 ∨ e = 1)) ∧
    (aspect = .prepare → (lit ↔ e = 0 ∨ e = 3)) ∧
    (aspect = .proceed → (lit ↔ e = 2 ∨ e = 3)) ∧
    (aspect = .outOfService → (lit ↔ u.phaseB = false ∧ (e = 0 ∨ e = 1))) ∧
    (aspect = .flash → (lit ↔ u.phaseB = false ∧ e = 0))
end

