-- ==== Sys2Proof/Laws/State.lean ====
section
/-! SUPPORT. One lemma for each field that an update of State leaves as it was, and for what it writes: no later proof
unfolds a record update. -/

namespace Sys2Proof.Machine

/-! ### The queue of commands -/

@[simp] theorem State.withPending_alive (s : State) (q : List Instr) : (s.withPending q).alive = s.alive := rfl
@[simp] theorem State.withPending_clock (s : State) (q : List Instr) : (s.withPending q).clock = s.clock := rfl
@[simp] theorem State.withPending_link (s : State) (q : List Instr) : (s.withPending q).link = s.link := rfl
@[simp] theorem State.withPending_site (s : State) (q : List Instr) : (s.withPending q).site = s.site := rfl
@[simp] theorem State.withPending_book (s : State) (q : List Instr) : (s.withPending q).book = s.book := rfl
@[simp] theorem State.withPending_beam (s : State) (q : List Instr) : (s.withPending q).beam = s.beam := rfl
@[simp] theorem State.withPending_road (s : State) (q : List Instr) : (s.withPending q).road = s.road := rfl
@[simp] theorem State.withPending_detectors (s : State) (q : List Instr) :
    (s.withPending q).detectors = s.detectors := rfl
@[simp] theorem State.withPending_lamps (s : State) (q : List Instr) : (s.withPending q).lamps = s.lamps := rfl
@[simp] theorem State.withPending_motion (s : State) (q : List Instr) : (s.withPending q).motion = s.motion := rfl
@[simp] theorem State.withPending_wind (s : State) (q : List Instr) : (s.withPending q).wind = s.wind := rfl
@[simp] theorem State.withPending_window (s : State) (q : List Instr) : (s.withPending q).window = s.window := rfl
@[simp] theorem State.withPending_nvmSerial (s : State) (q : List Instr) :
    (s.withPending q).nvmSerial = s.nvmSerial := rfl
@[simp] theorem State.withPending_pending (s : State) (q : List Instr) : (s.withPending q).pending = q := rfl

/-! ### The clock -/

@[simp] theorem State.reach_pending (s : State) (due : Nat) : (s.reach due).pending = s.pending := rfl
@[simp] theorem State.reach_alive (s : State) (due : Nat) : (s.reach due).alive = s.alive := rfl
@[simp] theorem State.reach_link (s : State) (due : Nat) : (s.reach due).link = s.link := rfl
@[simp] theorem State.reach_site (s : State) (due : Nat) : (s.reach due).site = s.site := rfl
@[simp] theorem State.reach_book (s : State) (due : Nat) : (s.reach due).book = s.book := rfl
@[simp] theorem State.reach_beam (s : State) (due : Nat) : (s.reach due).beam = s.beam := rfl
@[simp] theorem State.reach_road (s : State) (due : Nat) : (s.reach due).road = s.road := rfl
@[simp] theorem State.reach_detectors (s : State) (due : Nat) : (s.reach due).detectors = s.detectors := rfl
@[simp] theorem State.reach_lamps (s : State) (due : Nat) : (s.reach due).lamps = s.lamps := rfl
@[simp] theorem State.reach_motion (s : State) (due : Nat) : (s.reach due).motion = s.motion := rfl
@[simp] theorem State.reach_wind (s : State) (due : Nat) : (s.reach due).wind = s.wind := rfl
@[simp] theorem State.reach_window (s : State) (due : Nat) : (s.reach due).window = s.window := rfl
@[simp] theorem State.reach_nvmSerial (s : State) (due : Nat) : (s.reach due).nvmSerial = s.nvmSerial := rfl
@[simp] theorem State.reach_now (s : State) (due : Nat) : (s.reach due).clock.now = max s.clock.now due := rfl
@[simp] theorem State.reach_uptime (s : State) (due : Nat) : (s.reach due).clock.uptime = s.clock.uptime := rfl
@[simp] theorem State.reach_uptimeDue (s : State) (due : Nat) :
    (s.reach due).clock.uptimeDue = s.clock.uptimeDue := rfl

/-! ### The link -/

@[simp] theorem State.raise_pending (s : State) (f : Factor) : (s.raise f).pending = s.pending := rfl
@[simp] theorem State.raise_alive (s : State) (f : Factor) : (s.raise f).alive = s.alive := rfl
@[simp] theorem State.raise_clock (s : State) (f : Factor) : (s.raise f).clock = s.clock := rfl
@[simp] theorem State.raise_site (s : State) (f : Factor) : (s.raise f).site = s.site := rfl
@[simp] theorem State.raise_book (s : State) (f : Factor) : (s.raise f).book = s.book := rfl
@[simp] theorem State.raise_beam (s : State) (f : Factor) : (s.raise f).beam = s.beam := rfl
@[simp] theorem State.raise_road (s : State) (f : Factor) : (s.raise f).road = s.road := rfl
@[simp] theorem State.raise_detectors (s : State) (f : Factor) : (s.raise f).detectors = s.detectors := rfl
@[simp] theorem State.raise_lamps (s : State) (f : Factor) : (s.raise f).lamps = s.lamps := rfl
@[simp] theorem State.raise_motion (s : State) (f : Factor) : (s.raise f).motion = s.motion := rfl
@[simp] theorem State.raise_wind (s : State) (f : Factor) : (s.raise f).wind = s.wind := rfl
@[simp] theorem State.raise_window (s : State) (f : Factor) : (s.raise f).window = s.window := rfl
@[simp] theorem State.raise_nvmSerial (s : State) (f : Factor) : (s.raise f).nvmSerial = s.nvmSerial := rfl
@[simp] theorem State.raise_response (s : State) (f : Factor) : (s.raise f).link.response = s.link.response := rfl
@[simp] theorem State.raise_sent (s : State) (f : Factor) : (s.raise f).link.sent = s.link.sent := rfl
@[simp] theorem State.raise_floor (s : State) (f : Factor) : (s.raise f).link.floor = s.link.floor := rfl
@[simp] theorem State.raise_factors (s : State) (f : Factor) :
    (s.raise f).link.factors = s.link.factors ||| f.bit := rfl
@[simp] theorem State.raiseIf_pending (s : State) (b : Bool) (f : Factor) :
    (s.raiseIf b f).pending = s.pending := by cases b <;> rfl
@[simp] theorem State.raiseIf_alive (s : State) (b : Bool) (f : Factor) :
    (s.raiseIf b f).alive = s.alive := by cases b <;> rfl
@[simp] theorem State.raiseIf_clock (s : State) (b : Bool) (f : Factor) :
    (s.raiseIf b f).clock = s.clock := by cases b <;> rfl
@[simp] theorem State.raiseIf_site (s : State) (b : Bool) (f : Factor) :
    (s.raiseIf b f).site = s.site := by cases b <;> rfl
@[simp] theorem State.raiseIf_book (s : State) (b : Bool) (f : Factor) :
    (s.raiseIf b f).book = s.book := by cases b <;> rfl
@[simp] theorem State.raiseIf_beam (s : State) (b : Bool) (f : Factor) :
    (s.raiseIf b f).beam = s.beam := by cases b <;> rfl
@[simp] theorem State.raiseIf_road (s : State) (b : Bool) (f : Factor) :
    (s.raiseIf b f).road = s.road := by cases b <;> rfl
@[simp] theorem State.raiseIf_detectors (s : State) (b : Bool) (f : Factor) :
    (s.raiseIf b f).detectors = s.detectors := by cases b <;> rfl
@[simp] theorem State.raiseIf_lamps (s : State) (b : Bool) (f : Factor) :
    (s.raiseIf b f).lamps = s.lamps := by cases b <;> rfl
@[simp] theorem State.raiseIf_motion (s : State) (b : Bool) (f : Factor) :
    (s.raiseIf b f).motion = s.motion := by cases b <;> rfl
@[simp] theorem State.raiseIf_wind (s : State) (b : Bool) (f : Factor) :
    (s.raiseIf b f).wind = s.wind := by cases b <;> rfl
@[simp] theorem State.raiseIf_window (s : State) (b : Bool) (f : Factor) :
    (s.raiseIf b f).window = s.window := by cases b <;> rfl
@[simp] theorem State.raiseIf_nvmSerial (s : State) (b : Bool) (f : Factor) :
    (s.raiseIf b f).nvmSerial = s.nvmSerial := by cases b <;> rfl
@[simp] theorem State.raiseIf_response (s : State) (b : Bool) (f : Factor) :
    (s.raiseIf b f).link.response = s.link.response := by
  cases b <;> rfl
@[simp] theorem State.raiseIf_sent (s : State) (b : Bool) (f : Factor) : (s.raiseIf b f).link.sent = s.link.sent := by
  cases b <;> rfl
@[simp] theorem State.raiseIf_floor (s : State) (b : Bool) (f : Factor) :
    (s.raiseIf b f).link.floor = s.link.floor := by
  cases b <;> rfl
@[simp] theorem State.raiseIf_true (s : State) (f : Factor) : s.raiseIf true f = s.raise f := rfl
@[simp] theorem State.raiseIf_false (s : State) (f : Factor) : s.raiseIf false f = s := rfl
@[simp] theorem State.respond_pending (s : State) (r : Result) (body : List Byte) :
    (s.respond r body).pending = s.pending := rfl
@[simp] theorem State.respond_alive (s : State) (r : Result) (body : List Byte) :
    (s.respond r body).alive = s.alive := rfl
@[simp] theorem State.respond_clock (s : State) (r : Result) (body : List Byte) :
    (s.respond r body).clock = s.clock := rfl
@[simp] theorem State.respond_site (s : State) (r : Result) (body : List Byte) :
    (s.respond r body).site = s.site := rfl
@[simp] theorem State.respond_book (s : State) (r : Result) (body : List Byte) :
    (s.respond r body).book = s.book := rfl
@[simp] theorem State.respond_beam (s : State) (r : Result) (body : List Byte) :
    (s.respond r body).beam = s.beam := rfl
@[simp] theorem State.respond_road (s : State) (r : Result) (body : List Byte) :
    (s.respond r body).road = s.road := rfl
@[simp] theorem State.respond_detectors (s : State) (r : Result) (body : List Byte) :
    (s.respond r body).detectors = s.detectors := rfl
@[simp] theorem State.respond_lamps (s : State) (r : Result) (body : List Byte) :
    (s.respond r body).lamps = s.lamps := rfl
@[simp] theorem State.respond_motion (s : State) (r : Result) (body : List Byte) :
    (s.respond r body).motion = s.motion := rfl
@[simp] theorem State.respond_wind (s : State) (r : Result) (body : List Byte) :
    (s.respond r body).wind = s.wind := rfl
@[simp] theorem State.respond_window (s : State) (r : Result) (body : List Byte) :
    (s.respond r body).window = s.window := rfl
@[simp] theorem State.respond_nvmSerial (s : State) (r : Result) (body : List Byte) :
    (s.respond r body).nvmSerial = s.nvmSerial := rfl
@[simp] theorem State.respond_response (s : State) (r : Result) (body : List Byte) :
    (s.respond r body).link.response = frame r.code body := rfl
@[simp] theorem State.respond_factors (s : State) (r : Result) (body : List Byte) :
    (s.respond r body).link.factors = s.link.factors := rfl
@[simp] theorem State.respond_sent (s : State) (r : Result) (body : List Byte) :
    (s.respond r body).link.sent = s.link.sent := rfl
@[simp] theorem State.respond_floor (s : State) (r : Result) (body : List Byte) :
    (s.respond r body).link.floor = s.link.floor := rfl
@[simp] theorem State.refuse_pending (s : State) (r : Result) : (s.refuse r).pending = s.pending := rfl
@[simp] theorem State.refuse_alive (s : State) (r : Result) : (s.refuse r).alive = s.alive := rfl
@[simp] theorem State.refuse_clock (s : State) (r : Result) : (s.refuse r).clock = s.clock := rfl
@[simp] theorem State.refuse_site (s : State) (r : Result) : (s.refuse r).site = s.site := rfl
@[simp] theorem State.refuse_book (s : State) (r : Result) : (s.refuse r).book = s.book := rfl
@[simp] theorem State.refuse_beam (s : State) (r : Result) : (s.refuse r).beam = s.beam := rfl
@[simp] theorem State.refuse_road (s : State) (r : Result) : (s.refuse r).road = s.road := rfl
@[simp] theorem State.refuse_detectors (s : State) (r : Result) : (s.refuse r).detectors = s.detectors := rfl
@[simp] theorem State.refuse_lamps (s : State) (r : Result) : (s.refuse r).lamps = s.lamps := rfl
@[simp] theorem State.refuse_motion (s : State) (r : Result) : (s.refuse r).motion = s.motion := rfl
@[simp] theorem State.refuse_wind (s : State) (r : Result) : (s.refuse r).wind = s.wind := rfl
@[simp] theorem State.refuse_window (s : State) (r : Result) : (s.refuse r).window = s.window := rfl
@[simp] theorem State.refuse_nvmSerial (s : State) (r : Result) : (s.refuse r).nvmSerial = s.nvmSerial := rfl
@[simp] theorem State.refuse_response (s : State) (r : Result) :
    (s.refuse r).link.response = frame r.code [] := rfl
@[simp] theorem State.refuse_factors (s : State) (r : Result) : (s.refuse r).link.factors = s.link.factors := rfl
@[simp] theorem State.refuse_sent (s : State) (r : Result) : (s.refuse r).link.sent = s.link.sent := rfl
@[simp] theorem State.refuse_floor (s : State) (r : Result) : (s.refuse r).link.floor = s.link.floor := rfl
@[simp] theorem State.accept_pending (s : State) : (s.accept).pending = s.pending := rfl
@[simp] theorem State.accept_alive (s : State) : (s.accept).alive = s.alive := rfl
@[simp] theorem State.accept_clock (s : State) : (s.accept).clock = s.clock := rfl
@[simp] theorem State.accept_site (s : State) : (s.accept).site = s.site := rfl
@[simp] theorem State.accept_book (s : State) : (s.accept).book = s.book := rfl
@[simp] theorem State.accept_beam (s : State) : (s.accept).beam = s.beam := rfl
@[simp] theorem State.accept_road (s : State) : (s.accept).road = s.road := rfl
@[simp] theorem State.accept_detectors (s : State) : (s.accept).detectors = s.detectors := rfl
@[simp] theorem State.accept_lamps (s : State) : (s.accept).lamps = s.lamps := rfl
@[simp] theorem State.accept_motion (s : State) : (s.accept).motion = s.motion := rfl
@[simp] theorem State.accept_wind (s : State) : (s.accept).wind = s.wind := rfl
@[simp] theorem State.accept_window (s : State) : (s.accept).window = s.window := rfl
@[simp] theorem State.accept_nvmSerial (s : State) : (s.accept).nvmSerial = s.nvmSerial := rfl
@[simp] theorem State.accept_response (s : State) :
    (s.accept).link.response = frame Result.accepted.code [] := rfl
@[simp] theorem State.accept_factors (s : State) : (s.accept).link.factors = s.link.factors := rfl
@[simp] theorem State.accept_sent (s : State) : (s.accept).link.sent = s.link.sent := rfl
@[simp] theorem State.accept_floor (s : State) : (s.accept).link.floor = s.link.floor := rfl
@[simp] theorem State.send_pending (s : State) (n : Nat) : (s.send n).pending = s.pending := rfl
@[simp] theorem State.send_alive (s : State) (n : Nat) : (s.send n).alive = s.alive := rfl
@[simp] theorem State.send_clock (s : State) (n : Nat) : (s.send n).clock = s.clock := rfl
@[simp] theorem State.send_site (s : State) (n : Nat) : (s.send n).site = s.site := rfl
@[simp] theorem State.send_book (s : State) (n : Nat) : (s.send n).book = s.book := rfl
@[simp] theorem State.send_beam (s : State) (n : Nat) : (s.send n).beam = s.beam := rfl
@[simp] theorem State.send_road (s : State) (n : Nat) : (s.send n).road = s.road := rfl
@[simp] theorem State.send_detectors (s : State) (n : Nat) : (s.send n).detectors = s.detectors := rfl
@[simp] theorem State.send_lamps (s : State) (n : Nat) : (s.send n).lamps = s.lamps := rfl
@[simp] theorem State.send_motion (s : State) (n : Nat) : (s.send n).motion = s.motion := rfl
@[simp] theorem State.send_wind (s : State) (n : Nat) : (s.send n).wind = s.wind := rfl
@[simp] theorem State.send_window (s : State) (n : Nat) : (s.send n).window = s.window := rfl
@[simp] theorem State.send_nvmSerial (s : State) (n : Nat) : (s.send n).nvmSerial = s.nvmSerial := rfl
@[simp] theorem State.send_sent (s : State) (n : Nat) : (s.send n).link.sent = sentBytes s.link.response n := rfl
@[simp] theorem State.send_factors (s : State) (n : Nat) : (s.send n).link.factors = s.link.factors := rfl
@[simp] theorem State.send_response (s : State) (n : Nat) : (s.send n).link.response = s.link.response := rfl
@[simp] theorem State.send_floor (s : State) (n : Nat) : (s.send n).link.floor = s.link.floor := rfl
@[simp] theorem State.acknowledge_pending (s : State) (fs : BitVec 16) : (s.acknowledge fs).pending = s.pending := rfl
@[simp] theorem State.acknowledge_alive (s : State) (fs : BitVec 16) : (s.acknowledge fs).alive = s.alive := rfl
@[simp] theorem State.acknowledge_clock (s : State) (fs : BitVec 16) : (s.acknowledge fs).clock = s.clock := rfl
@[simp] theorem State.acknowledge_site (s : State) (fs : BitVec 16) : (s.acknowledge fs).site = s.site := rfl
@[simp] theorem State.acknowledge_book (s : State) (fs : BitVec 16) : (s.acknowledge fs).book = s.book := rfl
@[simp] theorem State.acknowledge_beam (s : State) (fs : BitVec 16) : (s.acknowledge fs).beam = s.beam := rfl
@[simp] theorem State.acknowledge_road (s : State) (fs : BitVec 16) : (s.acknowledge fs).road = s.road := rfl
@[simp] theorem State.acknowledge_detectors (s : State) (fs : BitVec 16) :
    (s.acknowledge fs).detectors = s.detectors := rfl
@[simp] theorem State.acknowledge_lamps (s : State) (fs : BitVec 16) : (s.acknowledge fs).lamps = s.lamps := rfl
@[simp] theorem State.acknowledge_motion (s : State) (fs : BitVec 16) : (s.acknowledge fs).motion = s.motion := rfl
@[simp] theorem State.acknowledge_wind (s : State) (fs : BitVec 16) : (s.acknowledge fs).wind = s.wind := rfl
@[simp] theorem State.acknowledge_window (s : State) (fs : BitVec 16) : (s.acknowledge fs).window = s.window := rfl
@[simp] theorem State.acknowledge_nvmSerial (s : State) (fs : BitVec 16) :
    (s.acknowledge fs).nvmSerial = s.nvmSerial := rfl
@[simp] theorem State.setFloor_pending (s : State) (n : Nat) : (s.setFloor n).pending = s.pending := rfl
@[simp] theorem State.setFloor_alive (s : State) (n : Nat) : (s.setFloor n).alive = s.alive := rfl
@[simp] theorem State.setFloor_clock (s : State) (n : Nat) : (s.setFloor n).clock = s.clock := rfl
@[simp] theorem State.setFloor_site (s : State) (n : Nat) : (s.setFloor n).site = s.site := rfl
@[simp] theorem State.setFloor_book (s : State) (n : Nat) : (s.setFloor n).book = s.book := rfl
@[simp] theorem State.setFloor_beam (s : State) (n : Nat) : (s.setFloor n).beam = s.beam := rfl
@[simp] theorem State.setFloor_road (s : State) (n : Nat) : (s.setFloor n).road = s.road := rfl
@[simp] theorem State.setFloor_detectors (s : State) (n : Nat) : (s.setFloor n).detectors = s.detectors := rfl
@[simp] theorem State.setFloor_lamps (s : State) (n : Nat) : (s.setFloor n).lamps = s.lamps := rfl
@[simp] theorem State.setFloor_motion (s : State) (n : Nat) : (s.setFloor n).motion = s.motion := rfl
@[simp] theorem State.setFloor_wind (s : State) (n : Nat) : (s.setFloor n).wind = s.wind := rfl
@[simp] theorem State.setFloor_window (s : State) (n : Nat) : (s.setFloor n).window = s.window := rfl
@[simp] theorem State.setFloor_nvmSerial (s : State) (n : Nat) : (s.setFloor n).nvmSerial = s.nvmSerial := rfl
@[simp] theorem State.acknowledge_response (s : State) (fs : BitVec 16) :
    (s.acknowledge fs).link.response = s.link.response := rfl
@[simp] theorem State.acknowledge_sent (s : State) (fs : BitVec 16) :
    (s.acknowledge fs).link.sent = s.link.sent := rfl
@[simp] theorem State.acknowledge_floor (s : State) (fs : BitVec 16) :
    (s.acknowledge fs).link.floor = s.link.floor := rfl
@[simp] theorem State.setFloor_response (s : State) (n : Nat) : (s.setFloor n).link.response = s.link.response := rfl
@[simp] theorem State.setFloor_sent (s : State) (n : Nat) : (s.setFloor n).link.sent = s.link.sent := rfl
@[simp] theorem State.setFloor_factors (s : State) (n : Nat) : (s.setFloor n).link.factors = s.link.factors := rfl
@[simp] theorem State.acknowledge_factors (s : State) (fs : BitVec 16) :
    (s.acknowledge fs).link.factors = s.link.factors &&& ~~~fs := rfl
@[simp] theorem State.setFloor_floor (s : State) (n : Nat) : (s.setFloor n).link.floor = n := rfl

/-! ### The road -/

@[simp] theorem State.modLane_pending (s : State) (l : LaneNo) (f : Lane → Lane) :
    (s.modLane l f).pending = s.pending := rfl
@[simp] theorem State.modLane_alive (s : State) (l : LaneNo) (f : Lane → Lane) :
    (s.modLane l f).alive = s.alive := rfl
@[simp] theorem State.modLane_clock (s : State) (l : LaneNo) (f : Lane → Lane) :
    (s.modLane l f).clock = s.clock := rfl
@[simp] theorem State.modLane_link (s : State) (l : LaneNo) (f : Lane → Lane) : (s.modLane l f).link = s.link := rfl
@[simp] theorem State.modLane_site (s : State) (l : LaneNo) (f : Lane → Lane) : (s.modLane l f).site = s.site := rfl
@[simp] theorem State.modLane_book (s : State) (l : LaneNo) (f : Lane → Lane) : (s.modLane l f).book = s.book := rfl
@[simp] theorem State.modLane_beam (s : State) (l : LaneNo) (f : Lane → Lane) : (s.modLane l f).beam = s.beam := rfl
@[simp] theorem State.modLane_detectors (s : State) (l : LaneNo) (f : Lane → Lane) :
    (s.modLane l f).detectors = s.detectors := rfl
@[simp] theorem State.modLane_lamps (s : State) (l : LaneNo) (f : Lane → Lane) :
    (s.modLane l f).lamps = s.lamps := rfl
@[simp] theorem State.modLane_motion (s : State) (l : LaneNo) (f : Lane → Lane) :
    (s.modLane l f).motion = s.motion := rfl
@[simp] theorem State.modLane_wind (s : State) (l : LaneNo) (f : Lane → Lane) : (s.modLane l f).wind = s.wind := rfl
@[simp] theorem State.modLane_window (s : State) (l : LaneNo) (f : Lane → Lane) :
    (s.modLane l f).window = s.window := rfl
@[simp] theorem State.modLane_nvmSerial (s : State) (l : LaneNo) (f : Lane → Lane) :
    (s.modLane l f).nvmSerial = s.nvmSerial := rfl
@[simp] theorem State.modLane_road_groups (s : State) (l : LaneNo) (f : Lane → Lane) :
    (s.modLane l f).road.groups = s.road.groups := rfl
@[simp] theorem State.modLane_road_deck (s : State) (l : LaneNo) (f : Lane → Lane) :
    (s.modLane l f).road.deck = s.road.deck := rfl
@[simp] theorem State.modLane_road_closureDemand (s : State) (l : LaneNo) (f : Lane → Lane) :
    (s.modLane l f).road.closureDemand = s.road.closureDemand := rfl
@[simp] theorem State.modLane_group (s : State) (l : LaneNo) (f : Lane → Lane) (g : GroupNo) :
    (s.modLane l f).group g = s.group g := rfl
@[simp] theorem State.modGroup_pending (s : State) (g : GroupNo) (f : Group → Group) :
    (s.modGroup g f).pending = s.pending := rfl
@[simp] theorem State.modGroup_alive (s : State) (g : GroupNo) (f : Group → Group) :
    (s.modGroup g f).alive = s.alive := rfl
@[simp] theorem State.modGroup_clock (s : State) (g : GroupNo) (f : Group → Group) :
    (s.modGroup g f).clock = s.clock := rfl
@[simp] theorem State.modGroup_link (s : State) (g : GroupNo) (f : Group → Group) :
    (s.modGroup g f).link = s.link := rfl
@[simp] theorem State.modGroup_site (s : State) (g : GroupNo) (f : Group → Group) :
    (s.modGroup g f).site = s.site := rfl
@[simp] theorem State.modGroup_book (s : State) (g : GroupNo) (f : Group → Group) :
    (s.modGroup g f).book = s.book := rfl
@[simp] theorem State.modGroup_beam (s : State) (g : GroupNo) (f : Group → Group) :
    (s.modGroup g f).beam = s.beam := rfl
@[simp] theorem State.modGroup_detectors (s : State) (g : GroupNo) (f : Group → Group) :
    (s.modGroup g f).detectors = s.detectors := rfl
@[simp] theorem State.modGroup_lamps (s : State) (g : GroupNo) (f : Group → Group) :
    (s.modGroup g f).lamps = s.lamps := rfl
@[simp] theorem State.modGroup_motion (s : State) (g : GroupNo) (f : Group → Group) :
    (s.modGroup g f).motion = s.motion := rfl
@[simp] theorem State.modGroup_wind (s : State) (g : GroupNo) (f : Group → Group) :
    (s.modGroup g f).wind = s.wind := rfl
@[simp] theorem State.modGroup_window (s : State) (g : GroupNo) (f : Group → Group) :
    (s.modGroup g f).window = s.window := rfl
@[simp] theorem State.modGroup_nvmSerial (s : State) (g : GroupNo) (f : Group → Group) :
    (s.modGroup g f).nvmSerial = s.nvmSerial := rfl
@[simp] theorem State.modGroup_road_lanes (s : State) (g : GroupNo) (f : Group → Group) :
    (s.modGroup g f).road.lanes = s.road.lanes := rfl
@[simp] theorem State.modGroup_road_deck (s : State) (g : GroupNo) (f : Group → Group) :
    (s.modGroup g f).road.deck = s.road.deck := rfl
@[simp] theorem State.modGroup_road_closureDemand (s : State) (g : GroupNo) (f : Group → Group) :
    (s.modGroup g f).road.closureDemand = s.road.closureDemand := rfl
@[simp] theorem State.modGroup_lane (s : State) (g : GroupNo) (f : Group → Group) (l : LaneNo) :
    (s.modGroup g f).lane l = s.lane l := rfl

/-! ### The detector inputs -/

@[simp] theorem State.modDetector_pending (s : State) (i : InputNo) (f : Detector → Detector) :
    (s.modDetector i f).pending = s.pending := rfl
@[simp] theorem State.modDetector_alive (s : State) (i : InputNo) (f : Detector → Detector) :
    (s.modDetector i f).alive = s.alive := rfl
@[simp] theorem State.modDetector_clock (s : State) (i : InputNo) (f : Detector → Detector) :
    (s.modDetector i f).clock = s.clock := rfl
@[simp] theorem State.modDetector_link (s : State) (i : InputNo) (f : Detector → Detector) :
    (s.modDetector i f).link = s.link := rfl
@[simp] theorem State.modDetector_site (s : State) (i : InputNo) (f : Detector → Detector) :
    (s.modDetector i f).site = s.site := rfl
@[simp] theorem State.modDetector_book (s : State) (i : InputNo) (f : Detector → Detector) :
    (s.modDetector i f).book = s.book := rfl
@[simp] theorem State.modDetector_beam (s : State) (i : InputNo) (f : Detector → Detector) :
    (s.modDetector i f).beam = s.beam := rfl
@[simp] theorem State.modDetector_road (s : State) (i : InputNo) (f : Detector → Detector) :
    (s.modDetector i f).road = s.road := rfl
@[simp] theorem State.modDetector_lamps (s : State) (i : InputNo) (f : Detector → Detector) :
    (s.modDetector i f).lamps = s.lamps := rfl
@[simp] theorem State.modDetector_motion (s : State) (i : InputNo) (f : Detector → Detector) :
    (s.modDetector i f).motion = s.motion := rfl
@[simp] theorem State.modDetector_wind (s : State) (i : InputNo) (f : Detector → Detector) :
    (s.modDetector i f).wind = s.wind := rfl
@[simp] theorem State.modDetector_window (s : State) (i : InputNo) (f : Detector → Detector) :
    (s.modDetector i f).window = s.window := rfl
@[simp] theorem State.modDetector_nvmSerial (s : State) (i : InputNo) (f : Detector → Detector) :
    (s.modDetector i f).nvmSerial = s.nvmSerial := rfl

/-! ### The lamp unit -/

@[simp] theorem State.modChannel_pending (s : State) (c : ChannelNo) (f : Channel → Channel) :
    (s.modChannel c f).pending = s.pending := rfl
@[simp] theorem State.modChannel_alive (s : State) (c : ChannelNo) (f : Channel → Channel) :
    (s.modChannel c f).alive = s.alive := rfl
@[simp] theorem State.modChannel_clock (s : State) (c : ChannelNo) (f : Channel → Channel) :
    (s.modChannel c f).clock = s.clock := rfl
@[simp] theorem State.modChannel_link (s : State) (c : ChannelNo) (f : Channel → Channel) :
    (s.modChannel c f).link = s.link := rfl
@[simp] theorem State.modChannel_site (s : State) (c : ChannelNo) (f : Channel → Channel) :
    (s.modChannel c f).site = s.site := rfl
@[simp] theorem State.modChannel_book (s : State) (c : ChannelNo) (f : Channel → Channel) :
    (s.modChannel c f).book = s.book := rfl
@[simp] theorem State.modChannel_beam (s : State) (c : ChannelNo) (f : Channel → Channel) :
    (s.modChannel c f).beam = s.beam := rfl
@[simp] theorem State.modChannel_road (s : State) (c : ChannelNo) (f : Channel → Channel) :
    (s.modChannel c f).road = s.road := rfl
@[simp] theorem State.modChannel_detectors (s : State) (c : ChannelNo) (f : Channel → Channel) :
    (s.modChannel c f).detectors = s.detectors := rfl
@[simp] theorem State.modChannel_motion (s : State) (c : ChannelNo) (f : Channel → Channel) :
    (s.modChannel c f).motion = s.motion := rfl
@[simp] theorem State.modChannel_wind (s : State) (c : ChannelNo) (f : Channel → Channel) :
    (s.modChannel c f).wind = s.wind := rfl
@[simp] theorem State.modChannel_window (s : State) (c : ChannelNo) (f : Channel → Channel) :
    (s.modChannel c f).window = s.window := rfl
@[simp] theorem State.modChannel_nvmSerial (s : State) (c : ChannelNo) (f : Channel → Channel) :
    (s.modChannel c f).nvmSerial = s.nvmSerial := rfl
@[simp] theorem State.modChannel_aspects (s : State) (c : ChannelNo) (f : Channel → Channel) :
    (s.modChannel c f).lamps.aspects = s.lamps.aspects := rfl
@[simp] theorem State.modChannel_phaseB (s : State) (c : ChannelNo) (f : Channel → Channel) :
    (s.modChannel c f).lamps.phaseB = s.lamps.phaseB := rfl
@[simp] theorem State.modChannel_flashTimer (s : State) (c : ChannelNo) (f : Channel → Channel) :
    (s.modChannel c f).lamps.flashTimer = s.lamps.flashTimer := rfl
@[simp] theorem State.modChannel_proving (s : State) (c : ChannelNo) (f : Channel → Channel) :
    (s.modChannel c f).lamps.proving = s.lamps.proving := rfl
@[simp] theorem State.modChannel_underTest (s : State) (c : ChannelNo) (f : Channel → Channel) :
    (s.modChannel c f).lamps.underTest = s.lamps.underTest := rfl
@[simp] theorem State.modChannel_testTimer (s : State) (c : ChannelNo) (f : Channel → Channel) :
    (s.modChannel c f).lamps.testTimer = s.lamps.testTimer := rfl
@[simp] theorem State.modChannel_periodicTimer (s : State) (c : ChannelNo) (f : Channel → Channel) :
    (s.modChannel c f).lamps.periodicTimer = s.lamps.periodicTimer := rfl
@[simp] theorem State.modChannel_firstFailure (s : State) (c : ChannelNo) (f : Channel → Channel) :
    (s.modChannel c f).lamps.firstFailure = s.lamps.firstFailure := rfl
@[simp] theorem State.endTest_pending (s : State) : (s.endTest).pending = s.pending := rfl
@[simp] theorem State.endTest_alive (s : State) : (s.endTest).alive = s.alive := rfl
@[simp] theorem State.endTest_clock (s : State) : (s.endTest).clock = s.clock := rfl
@[simp] theorem State.endTest_link (s : State) : (s.endTest).link = s.link := rfl
@[simp] theorem State.endTest_site (s : State) : (s.endTest).site = s.site := rfl
@[simp] theorem State.endTest_book (s : State) : (s.endTest).book = s.book := rfl
@[simp] theorem State.endTest_beam (s : State) : (s.endTest).beam = s.beam := rfl
@[simp] theorem State.endTest_road (s : State) : (s.endTest).road = s.road := rfl
@[simp] theorem State.endTest_detectors (s : State) : (s.endTest).detectors = s.detectors := rfl
@[simp] theorem State.endTest_motion (s : State) : (s.endTest).motion = s.motion := rfl
@[simp] theorem State.endTest_wind (s : State) : (s.endTest).wind = s.wind := rfl
@[simp] theorem State.endTest_window (s : State) : (s.endTest).window = s.window := rfl
@[simp] theorem State.endTest_nvmSerial (s : State) : (s.endTest).nvmSerial = s.nvmSerial := rfl
@[simp] theorem State.setProving_pending (s : State) (cs : List ChannelNo) :
    (s.setProving cs).pending = s.pending := rfl
@[simp] theorem State.setProving_alive (s : State) (cs : List ChannelNo) : (s.setProving cs).alive = s.alive := rfl
@[simp] theorem State.setProving_clock (s : State) (cs : List ChannelNo) : (s.setProving cs).clock = s.clock := rfl
@[simp] theorem State.setProving_link (s : State) (cs : List ChannelNo) : (s.setProving cs).link = s.link := rfl
@[simp] theorem State.setProving_site (s : State) (cs : List ChannelNo) : (s.setProving cs).site = s.site := rfl
@[simp] theorem State.setProving_book (s : State) (cs : List ChannelNo) : (s.setProving cs).book = s.book := rfl
@[simp] theorem State.setProving_beam (s : State) (cs : List ChannelNo) : (s.setProving cs).beam = s.beam := rfl
@[simp] theorem State.setProving_road (s : State) (cs : List ChannelNo) : (s.setProving cs).road = s.road := rfl
@[simp] theorem State.setProving_detectors (s : State) (cs : List ChannelNo) :
    (s.setProving cs).detectors = s.detectors := rfl
@[simp] theorem State.setProving_motion (s : State) (cs : List ChannelNo) : (s.setProving cs).motion = s.motion := rfl
@[simp] theorem State.setProving_wind (s : State) (cs : List ChannelNo) : (s.setProving cs).wind = s.wind := rfl
@[simp] theorem State.setProving_window (s : State) (cs : List ChannelNo) : (s.setProving cs).window = s.window := rfl
@[simp] theorem State.setProving_nvmSerial (s : State) (cs : List ChannelNo) :
    (s.setProving cs).nvmSerial = s.nvmSerial := rfl
@[simp] theorem State.setAspects_pending (s : State) : (s.setAspects).pending = s.pending := rfl
@[simp] theorem State.setAspects_alive (s : State) : (s.setAspects).alive = s.alive := rfl
@[simp] theorem State.setAspects_clock (s : State) : (s.setAspects).clock = s.clock := rfl
@[simp] theorem State.setAspects_link (s : State) : (s.setAspects).link = s.link := rfl
@[simp] theorem State.setAspects_site (s : State) : (s.setAspects).site = s.site := rfl
@[simp] theorem State.setAspects_book (s : State) : (s.setAspects).book = s.book := rfl
@[simp] theorem State.setAspects_beam (s : State) : (s.setAspects).beam = s.beam := rfl
@[simp] theorem State.setAspects_road (s : State) : (s.setAspects).road = s.road := rfl
@[simp] theorem State.setAspects_detectors (s : State) : (s.setAspects).detectors = s.detectors := rfl
@[simp] theorem State.setAspects_motion (s : State) : (s.setAspects).motion = s.motion := rfl
@[simp] theorem State.setAspects_wind (s : State) : (s.setAspects).wind = s.wind := rfl
@[simp] theorem State.setAspects_window (s : State) : (s.setAspects).window = s.window := rfl
@[simp] theorem State.setAspects_nvmSerial (s : State) : (s.setAspects).nvmSerial = s.nvmSerial := rfl
@[simp] theorem State.endTest_lamps_channels (s : State) : (s.endTest).lamps.channels = s.lamps.channels := rfl
@[simp] theorem State.endTest_lamps_aspects (s : State) : (s.endTest).lamps.aspects = s.lamps.aspects := rfl
@[simp] theorem State.endTest_lamps_phaseB (s : State) : (s.endTest).lamps.phaseB = s.lamps.phaseB := rfl
@[simp] theorem State.endTest_lamps_flashTimer (s : State) : (s.endTest).lamps.flashTimer = s.lamps.flashTimer := rfl
@[simp] theorem State.endTest_lamps_proving (s : State) : (s.endTest).lamps.proving = s.lamps.proving := rfl
@[simp] theorem State.endTest_lamps_periodicTimer (s : State) :
    (s.endTest).lamps.periodicTimer = s.lamps.periodicTimer := rfl
@[simp] theorem State.endTest_lamps_firstFailure (s : State) :
    (s.endTest).lamps.firstFailure = s.lamps.firstFailure := rfl
@[simp] theorem State.setProving_lamps_channels (s : State) (cs : List ChannelNo) :
    (s.setProving cs).lamps.channels = s.lamps.channels := rfl
@[simp] theorem State.setProving_lamps_aspects (s : State) (cs : List ChannelNo) :
    (s.setProving cs).lamps.aspects = s.lamps.aspects := rfl
@[simp] theorem State.setProving_lamps_phaseB (s : State) (cs : List ChannelNo) :
    (s.setProving cs).lamps.phaseB = s.lamps.phaseB := rfl
@[simp] theorem State.setProving_lamps_flashTimer (s : State) (cs : List ChannelNo) :
    (s.setProving cs).lamps.flashTimer = s.lamps.flashTimer := rfl
@[simp] theorem State.setProving_lamps_underTest (s : State) (cs : List ChannelNo) :
    (s.setProving cs).lamps.underTest = s.lamps.underTest := rfl
@[simp] theorem State.setProving_lamps_testTimer (s : State) (cs : List ChannelNo) :
    (s.setProving cs).lamps.testTimer = s.lamps.testTimer := rfl
@[simp] theorem State.setProving_lamps_periodicTimer (s : State) (cs : List ChannelNo) :
    (s.setProving cs).lamps.periodicTimer = s.lamps.periodicTimer := rfl
@[simp] theorem State.setProving_lamps_firstFailure (s : State) (cs : List ChannelNo) :
    (s.setProving cs).lamps.firstFailure = s.lamps.firstFailure := rfl
@[simp] theorem State.setAspects_lamps_channels (s : State) : (s.setAspects).lamps.channels = s.lamps.channels := rfl
@[simp] theorem State.setAspects_lamps_phaseB (s : State) : (s.setAspects).lamps.phaseB = s.lamps.phaseB := rfl
@[simp] theorem State.setAspects_lamps_flashTimer (s : State) :
    (s.setAspects).lamps.flashTimer = s.lamps.flashTimer := rfl
@[simp] theorem State.setAspects_lamps_proving (s : State) : (s.setAspects).lamps.proving = s.lamps.proving := rfl
@[simp] theorem State.setAspects_lamps_underTest (s : State) :
    (s.setAspects).lamps.underTest = s.lamps.underTest := rfl
@[simp] theorem State.setAspects_lamps_testTimer (s : State) :
    (s.setAspects).lamps.testTimer = s.lamps.testTimer := rfl
@[simp] theorem State.setAspects_lamps_periodicTimer (s : State) :
    (s.setAspects).lamps.periodicTimer = s.lamps.periodicTimer := rfl
@[simp] theorem State.setAspects_lamps_firstFailure (s : State) :
    (s.setAspects).lamps.firstFailure = s.lamps.firstFailure := rfl

/-! ### The passage book -/

@[simp] theorem State.modPassage_pending (s : State) (t : Tag) (f : Passage → Passage) :
    (s.modPassage t f).pending = s.pending := rfl
@[simp] theorem State.modPassage_alive (s : State) (t : Tag) (f : Passage → Passage) :
    (s.modPassage t f).alive = s.alive := rfl
@[simp] theorem State.modPassage_clock (s : State) (t : Tag) (f : Passage → Passage) :
    (s.modPassage t f).clock = s.clock := rfl
@[simp] theorem State.modPassage_link (s : State) (t : Tag) (f : Passage → Passage) :
    (s.modPassage t f).link = s.link := rfl
@[simp] theorem State.modPassage_site (s : State) (t : Tag) (f : Passage → Passage) :
    (s.modPassage t f).site = s.site := rfl
@[simp] theorem State.modPassage_beam (s : State) (t : Tag) (f : Passage → Passage) :
    (s.modPassage t f).beam = s.beam := rfl
@[simp] theorem State.modPassage_road (s : State) (t : Tag) (f : Passage → Passage) :
    (s.modPassage t f).road = s.road := rfl
@[simp] theorem State.modPassage_detectors (s : State) (t : Tag) (f : Passage → Passage) :
    (s.modPassage t f).detectors = s.detectors := rfl
@[simp] theorem State.modPassage_lamps (s : State) (t : Tag) (f : Passage → Passage) :
    (s.modPassage t f).lamps = s.lamps := rfl
@[simp] theorem State.modPassage_motion (s : State) (t : Tag) (f : Passage → Passage) :
    (s.modPassage t f).motion = s.motion := rfl
@[simp] theorem State.modPassage_wind (s : State) (t : Tag) (f : Passage → Passage) :
    (s.modPassage t f).wind = s.wind := rfl
@[simp] theorem State.modPassage_window (s : State) (t : Tag) (f : Passage → Passage) :
    (s.modPassage t f).window = s.window := rfl
@[simp] theorem State.modPassage_nvmSerial (s : State) (t : Tag) (f : Passage → Passage) :
    (s.modPassage t f).nvmSerial = s.nvmSerial := rfl
@[simp] theorem State.freeSlot_pending (s : State) (t : Tag) : (s.freeSlot t).pending = s.pending := rfl
@[simp] theorem State.freeSlot_alive (s : State) (t : Tag) : (s.freeSlot t).alive = s.alive := rfl
@[simp] theorem State.freeSlot_clock (s : State) (t : Tag) : (s.freeSlot t).clock = s.clock := rfl
@[simp] theorem State.freeSlot_link (s : State) (t : Tag) : (s.freeSlot t).link = s.link := rfl
@[simp] theorem State.freeSlot_site (s : State) (t : Tag) : (s.freeSlot t).site = s.site := rfl
@[simp] theorem State.freeSlot_beam (s : State) (t : Tag) : (s.freeSlot t).beam = s.beam := rfl
@[simp] theorem State.freeSlot_road (s : State) (t : Tag) : (s.freeSlot t).road = s.road := rfl
@[simp] theorem State.freeSlot_detectors (s : State) (t : Tag) : (s.freeSlot t).detectors = s.detectors := rfl
@[simp] theorem State.freeSlot_lamps (s : State) (t : Tag) : (s.freeSlot t).lamps = s.lamps := rfl
@[simp] theorem State.freeSlot_motion (s : State) (t : Tag) : (s.freeSlot t).motion = s.motion := rfl
@[simp] theorem State.freeSlot_wind (s : State) (t : Tag) : (s.freeSlot t).wind = s.wind := rfl
@[simp] theorem State.freeSlot_window (s : State) (t : Tag) : (s.freeSlot t).window = s.window := rfl
@[simp] theorem State.freeSlot_nvmSerial (s : State) (t : Tag) : (s.freeSlot t).nvmSerial = s.nvmSerial := rfl
@[simp] theorem State.modOpening_pending (s : State) (f : Opening → Opening) :
    (s.modOpening f).pending = s.pending := rfl
@[simp] theorem State.modOpening_alive (s : State) (f : Opening → Opening) : (s.modOpening f).alive = s.alive := rfl
@[simp] theorem State.modOpening_clock (s : State) (f : Opening → Opening) : (s.modOpening f).clock = s.clock := rfl
@[simp] theorem State.modOpening_link (s : State) (f : Opening → Opening) : (s.modOpening f).link = s.link := rfl
@[simp] theorem State.modOpening_site (s : State) (f : Opening → Opening) : (s.modOpening f).site = s.site := rfl
@[simp] theorem State.modOpening_beam (s : State) (f : Opening → Opening) : (s.modOpening f).beam = s.beam := rfl
@[simp] theorem State.modOpening_road (s : State) (f : Opening → Opening) : (s.modOpening f).road = s.road := rfl
@[simp] theorem State.modOpening_detectors (s : State) (f : Opening → Opening) :
    (s.modOpening f).detectors = s.detectors := rfl
@[simp] theorem State.modOpening_lamps (s : State) (f : Opening → Opening) : (s.modOpening f).lamps = s.lamps := rfl
@[simp] theorem State.modOpening_motion (s : State) (f : Opening → Opening) :
    (s.modOpening f).motion = s.motion := rfl
@[simp] theorem State.modOpening_wind (s : State) (f : Opening → Opening) : (s.modOpening f).wind = s.wind := rfl
@[simp] theorem State.modOpening_window (s : State) (f : Opening → Opening) :
    (s.modOpening f).window = s.window := rfl
@[simp] theorem State.modOpening_nvmSerial (s : State) (f : Opening → Opening) :
    (s.modOpening f).nvmSerial = s.nvmSerial := rfl
@[simp] theorem State.setWaiting_pending (s : State) (ts : List Tag) : (s.setWaiting ts).pending = s.pending := rfl
@[simp] theorem State.setWaiting_alive (s : State) (ts : List Tag) : (s.setWaiting ts).alive = s.alive := rfl
@[simp] theorem State.setWaiting_clock (s : State) (ts : List Tag) : (s.setWaiting ts).clock = s.clock := rfl
@[simp] theorem State.setWaiting_link (s : State) (ts : List Tag) : (s.setWaiting ts).link = s.link := rfl
@[simp] theorem State.setWaiting_site (s : State) (ts : List Tag) : (s.setWaiting ts).site = s.site := rfl
@[simp] theorem State.setWaiting_beam (s : State) (ts : List Tag) : (s.setWaiting ts).beam = s.beam := rfl
@[simp] theorem State.setWaiting_road (s : State) (ts : List Tag) : (s.setWaiting ts).road = s.road := rfl
@[simp] theorem State.setWaiting_detectors (s : State) (ts : List Tag) :
    (s.setWaiting ts).detectors = s.detectors := rfl
@[simp] theorem State.setWaiting_lamps (s : State) (ts : List Tag) : (s.setWaiting ts).lamps = s.lamps := rfl
@[simp] theorem State.setWaiting_motion (s : State) (ts : List Tag) : (s.setWaiting ts).motion = s.motion := rfl
@[simp] theorem State.setWaiting_wind (s : State) (ts : List Tag) : (s.setWaiting ts).wind = s.wind := rfl
@[simp] theorem State.setWaiting_window (s : State) (ts : List Tag) : (s.setWaiting ts).window = s.window := rfl
@[simp] theorem State.setWaiting_nvmSerial (s : State) (ts : List Tag) :
    (s.setWaiting ts).nvmSerial = s.nvmSerial := rfl
@[simp] theorem State.setSlot_pending (s : State) (i : Fin 16) (p : Passage) :
    (s.setSlot i p).pending = s.pending := rfl
@[simp] theorem State.setSlot_alive (s : State) (i : Fin 16) (p : Passage) : (s.setSlot i p).alive = s.alive := rfl
@[simp] theorem State.setSlot_clock (s : State) (i : Fin 16) (p : Passage) : (s.setSlot i p).clock = s.clock := rfl
@[simp] theorem State.setSlot_link (s : State) (i : Fin 16) (p : Passage) : (s.setSlot i p).link = s.link := rfl
@[simp] theorem State.setSlot_site (s : State) (i : Fin 16) (p : Passage) : (s.setSlot i p).site = s.site := rfl
@[simp] theorem State.setSlot_beam (s : State) (i : Fin 16) (p : Passage) : (s.setSlot i p).beam = s.beam := rfl
@[simp] theorem State.setSlot_road (s : State) (i : Fin 16) (p : Passage) : (s.setSlot i p).road = s.road := rfl
@[simp] theorem State.setSlot_detectors (s : State) (i : Fin 16) (p : Passage) :
    (s.setSlot i p).detectors = s.detectors := rfl
@[simp] theorem State.setSlot_lamps (s : State) (i : Fin 16) (p : Passage) : (s.setSlot i p).lamps = s.lamps := rfl
@[simp] theorem State.setSlot_motion (s : State) (i : Fin 16) (p : Passage) : (s.setSlot i p).motion = s.motion := rfl
@[simp] theorem State.setSlot_wind (s : State) (i : Fin 16) (p : Passage) : (s.setSlot i p).wind = s.wind := rfl
@[simp] theorem State.setSlot_window (s : State) (i : Fin 16) (p : Passage) : (s.setSlot i p).window = s.window := rfl
@[simp] theorem State.setSlot_nvmSerial (s : State) (i : Fin 16) (p : Passage) :
    (s.setSlot i p).nvmSerial = s.nvmSerial := rfl
@[simp] theorem State.modPassage_book_waiting (s : State) (t : Tag) (f : Passage → Passage) :
    (s.modPassage t f).book.waiting = s.book.waiting := rfl
@[simp] theorem State.modPassage_book_clearedOrder (s : State) (t : Tag) (f : Passage → Passage) :
    (s.modPassage t f).book.clearedOrder = s.book.clearedOrder := rfl
@[simp] theorem State.modPassage_book_lastNumber (s : State) (t : Tag) (f : Passage → Passage) :
    (s.modPassage t f).book.lastNumber = s.book.lastNumber := rfl
@[simp] theorem State.modPassage_book_opening (s : State) (t : Tag) (f : Passage → Passage) :
    (s.modPassage t f).book.opening = s.book.opening := rfl
@[simp] theorem State.modPassage_book_roadTimer (s : State) (t : Tag) (f : Passage → Passage) :
    (s.modPassage t f).book.roadTimer = s.book.roadTimer := rfl
@[simp] theorem State.freeSlot_book_waiting (s : State) (t : Tag) :
    (s.freeSlot t).book.waiting = s.book.waiting := rfl
@[simp] theorem State.freeSlot_book_clearedOrder (s : State) (t : Tag) :
    (s.freeSlot t).book.clearedOrder = s.book.clearedOrder := rfl
@[simp] theorem State.freeSlot_book_lastNumber (s : State) (t : Tag) :
    (s.freeSlot t).book.lastNumber = s.book.lastNumber := rfl
@[simp] theorem State.freeSlot_book_opening (s : State) (t : Tag) :
    (s.freeSlot t).book.opening = s.book.opening := rfl
@[simp] theorem State.freeSlot_book_roadTimer (s : State) (t : Tag) :
    (s.freeSlot t).book.roadTimer = s.book.roadTimer := rfl
@[simp] theorem State.modOpening_book_slots (s : State) (f : Opening → Opening) :
    (s.modOpening f).book.slots = s.book.slots := rfl
@[simp] theorem State.modOpening_book_waiting (s : State) (f : Opening → Opening) :
    (s.modOpening f).book.waiting = s.book.waiting := rfl
@[simp] theorem State.modOpening_book_clearedOrder (s : State) (f : Opening → Opening) :
    (s.modOpening f).book.clearedOrder = s.book.clearedOrder := rfl
@[simp] theorem State.modOpening_book_lastNumber (s : State) (f : Opening → Opening) :
    (s.modOpening f).book.lastNumber = s.book.lastNumber := rfl
@[simp] theorem State.modOpening_book_roadTimer (s : State) (f : Opening → Opening) :
    (s.modOpening f).book.roadTimer = s.book.roadTimer := rfl
@[simp] theorem State.setWaiting_book_slots (s : State) (ts : List Tag) :
    (s.setWaiting ts).book.slots = s.book.slots := rfl
@[simp] theorem State.setWaiting_book_clearedOrder (s : State) (ts : List Tag) :
    (s.setWaiting ts).book.clearedOrder = s.book.clearedOrder := rfl
@[simp] theorem State.setWaiting_book_lastNumber (s : State) (ts : List Tag) :
    (s.setWaiting ts).book.lastNumber = s.book.lastNumber := rfl
@[simp] theorem State.setWaiting_book_opening (s : State) (ts : List Tag) :
    (s.setWaiting ts).book.opening = s.book.opening := rfl
@[simp] theorem State.setWaiting_book_roadTimer (s : State) (ts : List Tag) :
    (s.setWaiting ts).book.roadTimer = s.book.roadTimer := rfl
@[simp] theorem State.setSlot_book_waiting (s : State) (i : Fin 16) (p : Passage) :
    (s.setSlot i p).book.waiting = s.book.waiting := rfl
@[simp] theorem State.setSlot_book_clearedOrder (s : State) (i : Fin 16) (p : Passage) :
    (s.setSlot i p).book.clearedOrder = s.book.clearedOrder := rfl
@[simp] theorem State.setSlot_book_lastNumber (s : State) (i : Fin 16) (p : Passage) :
    (s.setSlot i p).book.lastNumber = s.book.lastNumber := rfl
@[simp] theorem State.setSlot_book_opening (s : State) (i : Fin 16) (p : Passage) :
    (s.setSlot i p).book.opening = s.book.opening := rfl
@[simp] theorem State.setSlot_book_roadTimer (s : State) (i : Fin 16) (p : Passage) :
    (s.setSlot i p).book.roadTimer = s.book.roadTimer := rfl
@[simp] theorem State.modOpening_opening (s : State) (f : Opening → Opening) :
    (s.modOpening f).book.opening = s.book.opening.map f := rfl
@[simp] theorem State.setWaiting_waiting (s : State) (ts : List Tag) : (s.setWaiting ts).book.waiting = ts := rfl
@[simp] theorem State.modOpening_passage (s : State) (f : Opening → Opening) (t : Tag) :
    (s.modOpening f).passage t = s.passage t := rfl
@[simp] theorem State.setWaiting_passage (s : State) (ts : List Tag) (t : Tag) :
    (s.setWaiting ts).passage t = s.passage t := rfl

/-! ### The motion controller -/

@[simp] theorem State.modLeaf_pending (s : State) (i : Side) (f : Leaf → Leaf) :
    (s.modLeaf i f).pending = s.pending := by cases i <;> rfl
@[simp] theorem State.modLeaf_alive (s : State) (i : Side) (f : Leaf → Leaf) :
    (s.modLeaf i f).alive = s.alive := by cases i <;> rfl
@[simp] theorem State.modLeaf_clock (s : State) (i : Side) (f : Leaf → Leaf) :
    (s.modLeaf i f).clock = s.clock := by cases i <;> rfl
@[simp] theorem State.modLeaf_link (s : State) (i : Side) (f : Leaf → Leaf) :
    (s.modLeaf i f).link = s.link := by cases i <;> rfl
@[simp] theorem State.modLeaf_site (s : State) (i : Side) (f : Leaf → Leaf) :
    (s.modLeaf i f).site = s.site := by cases i <;> rfl
@[simp] theorem State.modLeaf_book (s : State) (i : Side) (f : Leaf → Leaf) :
    (s.modLeaf i f).book = s.book := by cases i <;> rfl
@[simp] theorem State.modLeaf_beam (s : State) (i : Side) (f : Leaf → Leaf) :
    (s.modLeaf i f).beam = s.beam := by cases i <;> rfl
@[simp] theorem State.modLeaf_road (s : State) (i : Side) (f : Leaf → Leaf) :
    (s.modLeaf i f).road = s.road := by cases i <;> rfl
@[simp] theorem State.modLeaf_detectors (s : State) (i : Side) (f : Leaf → Leaf) :
    (s.modLeaf i f).detectors = s.detectors := by cases i <;> rfl
@[simp] theorem State.modLeaf_lamps (s : State) (i : Side) (f : Leaf → Leaf) :
    (s.modLeaf i f).lamps = s.lamps := by cases i <;> rfl
@[simp] theorem State.modLeaf_wind (s : State) (i : Side) (f : Leaf → Leaf) :
    (s.modLeaf i f).wind = s.wind := by cases i <;> rfl
@[simp] theorem State.modLeaf_window (s : State) (i : Side) (f : Leaf → Leaf) :
    (s.modLeaf i f).window = s.window := by cases i <;> rfl
@[simp] theorem State.modLeaf_nvmSerial (s : State) (i : Side) (f : Leaf → Leaf) :
    (s.modLeaf i f).nvmSerial = s.nvmSerial := by cases i <;> rfl
@[simp] theorem State.modLock_pending (s : State) (k : LockId) (f : Lock → Lock) :
    (s.modLock k f).pending = s.pending := by cases k <;> rfl
@[simp] theorem State.modLock_alive (s : State) (k : LockId) (f : Lock → Lock) :
    (s.modLock k f).alive = s.alive := by cases k <;> rfl
@[simp] theorem State.modLock_clock (s : State) (k : LockId) (f : Lock → Lock) :
    (s.modLock k f).clock = s.clock := by cases k <;> rfl
@[simp] theorem State.modLock_link (s : State) (k : LockId) (f : Lock → Lock) :
    (s.modLock k f).link = s.link := by cases k <;> rfl
@[simp] theorem State.modLock_site (s : State) (k : LockId) (f : Lock → Lock) :
    (s.modLock k f).site = s.site := by cases k <;> rfl
@[simp] theorem State.modLock_book (s : State) (k : LockId) (f : Lock → Lock) :
    (s.modLock k f).book = s.book := by cases k <;> rfl
@[simp] theorem State.modLock_beam (s : State) (k : LockId) (f : Lock → Lock) :
    (s.modLock k f).beam = s.beam := by cases k <;> rfl
@[simp] theorem State.modLock_road (s : State) (k : LockId) (f : Lock → Lock) :
    (s.modLock k f).road = s.road := by cases k <;> rfl
@[simp] theorem State.modLock_detectors (s : State) (k : LockId) (f : Lock → Lock) :
    (s.modLock k f).detectors = s.detectors := by cases k <;> rfl
@[simp] theorem State.modLock_lamps (s : State) (k : LockId) (f : Lock → Lock) :
    (s.modLock k f).lamps = s.lamps := by cases k <;> rfl
@[simp] theorem State.modLock_wind (s : State) (k : LockId) (f : Lock → Lock) :
    (s.modLock k f).wind = s.wind := by cases k <;> rfl
@[simp] theorem State.modLock_window (s : State) (k : LockId) (f : Lock → Lock) :
    (s.modLock k f).window = s.window := by cases k <;> rfl
@[simp] theorem State.modLock_nvmSerial (s : State) (k : LockId) (f : Lock → Lock) :
    (s.modLock k f).nvmSerial = s.nvmSerial := by cases k <;> rfl
@[simp] theorem State.modPump_pending (s : State) (i : Side) (f : Pump → Pump) :
    (s.modPump i f).pending = s.pending := by cases i <;> rfl
@[simp] theorem State.modPump_alive (s : State) (i : Side) (f : Pump → Pump) :
    (s.modPump i f).alive = s.alive := by cases i <;> rfl
@[simp] theorem State.modPump_clock (s : State) (i : Side) (f : Pump → Pump) :
    (s.modPump i f).clock = s.clock := by cases i <;> rfl
@[simp] theorem State.modPump_link (s : State) (i : Side) (f : Pump → Pump) :
    (s.modPump i f).link = s.link := by cases i <;> rfl
@[simp] theorem State.modPump_site (s : State) (i : Side) (f : Pump → Pump) :
    (s.modPump i f).site = s.site := by cases i <;> rfl
@[simp] theorem State.modPump_book (s : State) (i : Side) (f : Pump → Pump) :
    (s.modPump i f).book = s.book := by cases i <;> rfl
@[simp] theorem State.modPump_beam (s : State) (i : Side) (f : Pump → Pump) :
    (s.modPump i f).beam = s.beam := by cases i <;> rfl
@[simp] theorem State.modPump_road (s : State) (i : Side) (f : Pump → Pump) :
    (s.modPump i f).road = s.road := by cases i <;> rfl
@[simp] theorem State.modPump_detectors (s : State) (i : Side) (f : Pump → Pump) :
    (s.modPump i f).detectors = s.detectors := by cases i <;> rfl
@[simp] theorem State.modPump_lamps (s : State) (i : Side) (f : Pump → Pump) :
    (s.modPump i f).lamps = s.lamps := by cases i <;> rfl
@[simp] theorem State.modPump_wind (s : State) (i : Side) (f : Pump → Pump) :
    (s.modPump i f).wind = s.wind := by cases i <;> rfl
@[simp] theorem State.modPump_window (s : State) (i : Side) (f : Pump → Pump) :
    (s.modPump i f).window = s.window := by cases i <;> rfl
@[simp] theorem State.modPump_nvmSerial (s : State) (i : Side) (f : Pump → Pump) :
    (s.modPump i f).nvmSerial = s.nvmSerial := by cases i <;> rfl
@[simp] theorem State.modPair_pending (s : State) (f : Pair → Pair) : (s.modPair f).pending = s.pending := rfl
@[simp] theorem State.modPair_alive (s : State) (f : Pair → Pair) : (s.modPair f).alive = s.alive := rfl
@[simp] theorem State.modPair_clock (s : State) (f : Pair → Pair) : (s.modPair f).clock = s.clock := rfl
@[simp] theorem State.modPair_link (s : State) (f : Pair → Pair) : (s.modPair f).link = s.link := rfl
@[simp] theorem State.modPair_site (s : State) (f : Pair → Pair) : (s.modPair f).site = s.site := rfl
@[simp] theorem State.modPair_book (s : State) (f : Pair → Pair) : (s.modPair f).book = s.book := rfl
@[simp] theorem State.modPair_beam (s : State) (f : Pair → Pair) : (s.modPair f).beam = s.beam := rfl
@[simp] theorem State.modPair_road (s : State) (f : Pair → Pair) : (s.modPair f).road = s.road := rfl
@[simp] theorem State.modPair_detectors (s : State) (f : Pair → Pair) : (s.modPair f).detectors = s.detectors := rfl
@[simp] theorem State.modPair_lamps (s : State) (f : Pair → Pair) : (s.modPair f).lamps = s.lamps := rfl
@[simp] theorem State.modPair_wind (s : State) (f : Pair → Pair) : (s.modPair f).wind = s.wind := rfl
@[simp] theorem State.modPair_window (s : State) (f : Pair → Pair) : (s.modPair f).window = s.window := rfl
@[simp] theorem State.modPair_nvmSerial (s : State) (f : Pair → Pair) : (s.modPair f).nvmSerial = s.nvmSerial := rfl
@[simp] theorem State.modLeaf_motion_pair (s : State) (i : Side) (f : Leaf → Leaf) :
    (s.modLeaf i f).motion.pair = s.motion.pair := by
  cases i <;> rfl
@[simp] theorem State.modLeaf_motion_bolt (s : State) (i : Side) (f : Leaf → Leaf) :
    (s.modLeaf i f).motion.bolt = s.motion.bolt := by
  cases i <;> rfl
@[simp] theorem State.modLeaf_motion_tailN (s : State) (i : Side) (f : Leaf → Leaf) :
    (s.modLeaf i f).motion.tailN = s.motion.tailN := by
  cases i <;> rfl
@[simp] theorem State.modLeaf_motion_tailS (s : State) (i : Side) (f : Leaf → Leaf) :
    (s.modLeaf i f).motion.tailS = s.motion.tailS := by
  cases i <;> rfl
@[simp] theorem State.modLeaf_motion_pumpN (s : State) (i : Side) (f : Leaf → Leaf) :
    (s.modLeaf i f).motion.pumpN = s.motion.pumpN := by
  cases i <;> rfl
@[simp] theorem State.modLeaf_motion_pumpS (s : State) (i : Side) (f : Leaf → Leaf) :
    (s.modLeaf i f).motion.pumpS = s.motion.pumpS := by
  cases i <;> rfl
@[simp] theorem State.modLeaf_motion_estopRaw (s : State) (i : Side) (f : Leaf → Leaf) :
    (s.modLeaf i f).motion.estopRaw = s.motion.estopRaw := by
  cases i <;> rfl
@[simp] theorem State.modLeaf_motion_estop (s : State) (i : Side) (f : Leaf → Leaf) :
    (s.modLeaf i f).motion.estop = s.motion.estop := by
  cases i <;> rfl
@[simp] theorem State.modLeaf_motion_estopTimer (s : State) (i : Side) (f : Leaf → Leaf) :
    (s.modLeaf i f).motion.estopTimer = s.motion.estopTimer := by
  cases i <;> rfl
@[simp] theorem State.modLeaf_motion_period (s : State) (i : Side) (f : Leaf → Leaf) :
    (s.modLeaf i f).motion.period = s.motion.period := by
  cases i <;> rfl
@[simp] theorem State.modLeaf_motion_rampBase (s : State) (i : Side) (f : Leaf → Leaf) :
    (s.modLeaf i f).motion.rampBase = s.motion.rampBase := by
  cases i <;> rfl
@[simp] theorem State.modLeaf_motion_periodTimer (s : State) (i : Side) (f : Leaf → Leaf) :
    (s.modLeaf i f).motion.periodTimer = s.motion.periodTimer := by
  cases i <;> rfl
@[simp] theorem State.modLock_motion_pair (s : State) (k : LockId) (f : Lock → Lock) :
    (s.modLock k f).motion.pair = s.motion.pair := by
  cases k <;> rfl
@[simp] theorem State.modLock_motion_leafN (s : State) (k : LockId) (f : Lock → Lock) :
    (s.modLock k f).motion.leafN = s.motion.leafN := by
  cases k <;> rfl
@[simp] theorem State.modLock_motion_leafS (s : State) (k : LockId) (f : Lock → Lock) :
    (s.modLock k f).motion.leafS = s.motion.leafS := by
  cases k <;> rfl
@[simp] theorem State.modLock_motion_pumpN (s : State) (k : LockId) (f : Lock → Lock) :
    (s.modLock k f).motion.pumpN = s.motion.pumpN := by
  cases k <;> rfl
@[simp] theorem State.modLock_motion_pumpS (s : State) (k : LockId) (f : Lock → Lock) :
    (s.modLock k f).motion.pumpS = s.motion.pumpS := by
  cases k <;> rfl
@[simp] theorem State.modLock_motion_estopRaw (s : State) (k : LockId) (f : Lock → Lock) :
    (s.modLock k f).motion.estopRaw = s.motion.estopRaw := by
  cases k <;> rfl
@[simp] theorem State.modLock_motion_estop (s : State) (k : LockId) (f : Lock → Lock) :
    (s.modLock k f).motion.estop = s.motion.estop := by
  cases k <;> rfl
@[simp] theorem State.modLock_motion_estopTimer (s : State) (k : LockId) (f : Lock → Lock) :
    (s.modLock k f).motion.estopTimer = s.motion.estopTimer := by
  cases k <;> rfl
@[simp] theorem State.modLock_motion_period (s : State) (k : LockId) (f : Lock → Lock) :
    (s.modLock k f).motion.period = s.motion.period := by
  cases k <;> rfl
@[simp] theorem State.modLock_motion_rampBase (s : State) (k : LockId) (f : Lock → Lock) :
    (s.modLock k f).motion.rampBase = s.motion.rampBase := by
  cases k <;> rfl
@[simp] theorem State.modLock_motion_periodTimer (s : State) (k : LockId) (f : Lock → Lock) :
    (s.modLock k f).motion.periodTimer = s.motion.periodTimer := by
  cases k <;> rfl
@[simp] theorem State.modPump_motion_pair (s : State) (i : Side) (f : Pump → Pump) :
    (s.modPump i f).motion.pair = s.motion.pair := by
  cases i <;> rfl
@[simp] theorem State.modPump_motion_leafN (s : State) (i : Side) (f : Pump → Pump) :
    (s.modPump i f).motion.leafN = s.motion.leafN := by
  cases i <;> rfl
@[simp] theorem State.modPump_motion_leafS (s : State) (i : Side) (f : Pump → Pump) :
    (s.modPump i f).motion.leafS = s.motion.leafS := by
  cases i <;> rfl
@[simp] theorem State.modPump_motion_bolt (s : State) (i : Side) (f : Pump → Pump) :
    (s.modPump i f).motion.bolt = s.motion.bolt := by
  cases i <;> rfl
@[simp] theorem State.modPump_motion_tailN (s : State) (i : Side) (f : Pump → Pump) :
    (s.modPump i f).motion.tailN = s.motion.tailN := by
  cases i <;> rfl
@[simp] theorem State.modPump_motion_tailS (s : State) (i : Side) (f : Pump → Pump) :
    (s.modPump i f).motion.tailS = s.motion.tailS := by
  cases i <;> rfl
@[simp] theorem State.modPump_motion_estopRaw (s : State) (i : Side) (f : Pump → Pump) :
    (s.modPump i f).motion.estopRaw = s.motion.estopRaw := by
  cases i <;> rfl
@[simp] theorem State.modPump_motion_estop (s : State) (i : Side) (f : Pump → Pump) :
    (s.modPump i f).motion.estop = s.motion.estop := by
  cases i <;> rfl
@[simp] theorem State.modPump_motion_estopTimer (s : State) (i : Side) (f : Pump → Pump) :
    (s.modPump i f).motion.estopTimer = s.motion.estopTimer := by
  cases i <;> rfl
@[simp] theorem State.modPump_motion_period (s : State) (i : Side) (f : Pump → Pump) :
    (s.modPump i f).motion.period = s.motion.period := by
  cases i <;> rfl
@[simp] theorem State.modPump_motion_rampBase (s : State) (i : Side) (f : Pump → Pump) :
    (s.modPump i f).motion.rampBase = s.motion.rampBase := by
  cases i <;> rfl
@[simp] theorem State.modPump_motion_periodTimer (s : State) (i : Side) (f : Pump → Pump) :
    (s.modPump i f).motion.periodTimer = s.motion.periodTimer := by
  cases i <;> rfl
@[simp] theorem State.modPair_motion_leafN (s : State) (f : Pair → Pair) :
    (s.modPair f).motion.leafN = s.motion.leafN := rfl
@[simp] theorem State.modPair_motion_leafS (s : State) (f : Pair → Pair) :
    (s.modPair f).motion.leafS = s.motion.leafS := rfl
@[simp] theorem State.modPair_motion_bolt (s : State) (f : Pair → Pair) :
    (s.modPair f).motion.bolt = s.motion.bolt := rfl
@[simp] theorem State.modPair_motion_tailN (s : State) (f : Pair → Pair) :
    (s.modPair f).motion.tailN = s.motion.tailN := rfl
@[simp] theorem State.modPair_motion_tailS (s : State) (f : Pair → Pair) :
    (s.modPair f).motion.tailS = s.motion.tailS := rfl
@[simp] theorem State.modPair_motion_pumpN (s : State) (f : Pair → Pair) :
    (s.modPair f).motion.pumpN = s.motion.pumpN := rfl
@[simp] theorem State.modPair_motion_pumpS (s : State) (f : Pair → Pair) :
    (s.modPair f).motion.pumpS = s.motion.pumpS := rfl
@[simp] theorem State.modPair_motion_estopRaw (s : State) (f : Pair → Pair) :
    (s.modPair f).motion.estopRaw = s.motion.estopRaw := rfl
@[simp] theorem State.modPair_motion_estop (s : State) (f : Pair → Pair) :
    (s.modPair f).motion.estop = s.motion.estop := rfl
@[simp] theorem State.modPair_motion_estopTimer (s : State) (f : Pair → Pair) :
    (s.modPair f).motion.estopTimer = s.motion.estopTimer := rfl
@[simp] theorem State.modPair_motion_period (s : State) (f : Pair → Pair) :
    (s.modPair f).motion.period = s.motion.period := rfl
@[simp] theorem State.modPair_motion_rampBase (s : State) (f : Pair → Pair) :
    (s.modPair f).motion.rampBase = s.motion.rampBase := rfl
@[simp] theorem State.modPair_motion_periodTimer (s : State) (f : Pair → Pair) :
    (s.modPair f).motion.periodTimer = s.motion.periodTimer := rfl
@[simp] theorem State.modPair_pair (s : State) (f : Pair → Pair) : (s.modPair f).motion.pair = f s.motion.pair := rfl
theorem State.modLeaf_leaf (s : State) (j : Side) (f : Leaf → Leaf) (i : Side) :
    (s.modLeaf j f).leaf i = if i = j then f (s.leaf j) else s.leaf i := by
  cases j <;> cases i <;> rfl
@[simp] theorem State.modLeaf_leaf_same (s : State) (j : Side) (f : Leaf → Leaf) :
    (s.modLeaf j f).leaf j = f (s.leaf j) := by
  cases j <;> rfl
@[simp] theorem State.modLock_leaf (s : State) (j : LockId) (f : Lock → Lock) (i : Side) :
    (s.modLock j f).leaf i = s.leaf i := by
  cases j <;> cases i <;> rfl
@[simp] theorem State.modPump_leaf (s : State) (j : Side) (f : Pump → Pump) (i : Side) :
    (s.modPump j f).leaf i = s.leaf i := by
  cases j <;> cases i <;> rfl
@[simp] theorem State.modPair_leaf (s : State) (f : Pair → Pair) (i : Side) : (s.modPair f).leaf i = s.leaf i := by
  cases i <;> rfl
@[simp] theorem State.modLeaf_lock (s : State) (j : Side) (f : Leaf → Leaf) (k : LockId) :
    (s.modLeaf j f).lock k = s.lock k := by
  cases j <;> cases k <;> rfl
theorem State.modLock_lock (s : State) (j : LockId) (f : Lock → Lock) (k : LockId) :
    (s.modLock j f).lock k = if k = j then f (s.lock j) else s.lock k := by
  cases j <;> cases k <;> rfl
@[simp] theorem State.modLock_lock_same (s : State) (j : LockId) (f : Lock → Lock) :
    (s.modLock j f).lock j = f (s.lock j) := by
  cases j <;> rfl
@[simp] theorem State.modPump_lock (s : State) (j : Side) (f : Pump → Pump) (k : LockId) :
    (s.modPump j f).lock k = s.lock k := by
  cases j <;> cases k <;> rfl
@[simp] theorem State.modPair_lock (s : State) (f : Pair → Pair) (k : LockId) : (s.modPair f).lock k = s.lock k := by
  cases k <;> rfl
@[simp] theorem State.modLeaf_pump (s : State) (j : Side) (f : Leaf → Leaf) (i : Side) :
    (s.modLeaf j f).pump i = s.pump i := by
  cases j <;> cases i <;> rfl
@[simp] theorem State.modLock_pump (s : State) (j : LockId) (f : Lock → Lock) (i : Side) :
    (s.modLock j f).pump i = s.pump i := by
  cases j <;> cases i <;> rfl
theorem State.modPump_pump (s : State) (j : Side) (f : Pump → Pump) (i : Side) :
    (s.modPump j f).pump i = if i = j then f (s.pump j) else s.pump i := by
  cases j <;> cases i <;> rfl
@[simp] theorem State.modPump_pump_same (s : State) (j : Side) (f : Pump → Pump) :
    (s.modPump j f).pump j = f (s.pump j) := by
  cases j <;> rfl
@[simp] theorem State.modPair_pump (s : State) (f : Pair → Pair) (i : Side) : (s.modPair f).pump i = s.pump i := by
  cases i <;> rfl

/-! ### The Start Window -/

@[simp] theorem State.request_pending (s : State) (r : Requester) : (s.request r).pending = s.pending := rfl
@[simp] theorem State.request_alive (s : State) (r : Requester) : (s.request r).alive = s.alive := rfl
@[simp] theorem State.request_clock (s : State) (r : Requester) : (s.request r).clock = s.clock := rfl
@[simp] theorem State.request_link (s : State) (r : Requester) : (s.request r).link = s.link := rfl
@[simp] theorem State.request_site (s : State) (r : Requester) : (s.request r).site = s.site := rfl
@[simp] theorem State.request_book (s : State) (r : Requester) : (s.request r).book = s.book := rfl
@[simp] theorem State.request_beam (s : State) (r : Requester) : (s.request r).beam = s.beam := rfl
@[simp] theorem State.request_road (s : State) (r : Requester) : (s.request r).road = s.road := rfl
@[simp] theorem State.request_detectors (s : State) (r : Requester) : (s.request r).detectors = s.detectors := rfl
@[simp] theorem State.request_lamps (s : State) (r : Requester) : (s.request r).lamps = s.lamps := rfl
@[simp] theorem State.request_motion (s : State) (r : Requester) : (s.request r).motion = s.motion := rfl
@[simp] theorem State.request_wind (s : State) (r : Requester) : (s.request r).wind = s.wind := rfl
@[simp] theorem State.request_nvmSerial (s : State) (r : Requester) : (s.request r).nvmSerial = s.nvmSerial := rfl
@[simp] theorem State.withdraw_pending (s : State) (r : Requester) : (s.withdraw r).pending = s.pending := rfl
@[simp] theorem State.withdraw_alive (s : State) (r : Requester) : (s.withdraw r).alive = s.alive := rfl
@[simp] theorem State.withdraw_clock (s : State) (r : Requester) : (s.withdraw r).clock = s.clock := rfl
@[simp] theorem State.withdraw_link (s : State) (r : Requester) : (s.withdraw r).link = s.link := rfl
@[simp] theorem State.withdraw_site (s : State) (r : Requester) : (s.withdraw r).site = s.site := rfl
@[simp] theorem State.withdraw_book (s : State) (r : Requester) : (s.withdraw r).book = s.book := rfl
@[simp] theorem State.withdraw_beam (s : State) (r : Requester) : (s.withdraw r).beam = s.beam := rfl
@[simp] theorem State.withdraw_road (s : State) (r : Requester) : (s.withdraw r).road = s.road := rfl
@[simp] theorem State.withdraw_detectors (s : State) (r : Requester) : (s.withdraw r).detectors = s.detectors := rfl
@[simp] theorem State.withdraw_lamps (s : State) (r : Requester) : (s.withdraw r).lamps = s.lamps := rfl
@[simp] theorem State.withdraw_motion (s : State) (r : Requester) : (s.withdraw r).motion = s.motion := rfl
@[simp] theorem State.withdraw_wind (s : State) (r : Requester) : (s.withdraw r).wind = s.wind := rfl
@[simp] theorem State.withdraw_nvmSerial (s : State) (r : Requester) : (s.withdraw r).nvmSerial = s.nvmSerial := rfl
@[simp] theorem State.request_queue (s : State) (r : Requester) :
    (s.request r).window.queue = joinQueue s.window.asked s.window.queue r := rfl
@[simp] theorem State.request_asked (s : State) (r : Requester) :
    (s.request r).window.asked = if r ∈ s.window.queue then s.window.asked else r :: s.window.asked := rfl
@[simp] theorem State.withdraw_asked (s : State) (r : Requester) :
    (s.withdraw r).window.asked = s.window.asked := rfl
@[simp] theorem State.withdraw_queue (s : State) (r : Requester) :
    (s.withdraw r).window.queue = leaveQueue s.window.queue r := rfl
@[simp] theorem State.request_grants (s : State) (r : Requester) :
    (s.request r).window.grants = s.window.grants := rfl
@[simp] theorem State.withdraw_grants (s : State) (r : Requester) :
    (s.withdraw r).window.grants = s.window.grants := rfl

/-! ### The end of an act -/

@[simp] theorem State.closeAct_pending (s : State) : s.closeAct.pending = s.pending := rfl
@[simp] theorem State.closeAct_alive (s : State) : s.closeAct.alive = s.alive := rfl
@[simp] theorem State.closeAct_clock (s : State) : s.closeAct.clock = s.clock := rfl
@[simp] theorem State.closeAct_link (s : State) : s.closeAct.link = s.link := rfl
@[simp] theorem State.closeAct_site (s : State) : s.closeAct.site = s.site := rfl
@[simp] theorem State.closeAct_book (s : State) : s.closeAct.book = s.book := rfl
@[simp] theorem State.closeAct_beam (s : State) : s.closeAct.beam = s.beam := rfl
@[simp] theorem State.closeAct_road (s : State) : s.closeAct.road = s.road := rfl
@[simp] theorem State.closeAct_detectors (s : State) : s.closeAct.detectors = s.detectors := rfl
@[simp] theorem State.closeAct_lamps (s : State) : s.closeAct.lamps = s.lamps := rfl
@[simp] theorem State.closeAct_motion (s : State) : s.closeAct.motion = s.motion := rfl
@[simp] theorem State.closeAct_wind (s : State) : s.closeAct.wind = s.wind := rfl
@[simp] theorem State.closeAct_nvmSerial (s : State) : s.closeAct.nvmSerial = s.nvmSerial := rfl
@[simp] theorem State.closeAct_queue (s : State) : s.closeAct.window.queue = s.window.queue := rfl
@[simp] theorem State.closeAct_grants (s : State) : s.closeAct.window.grants = s.window.grants := rfl
@[simp] theorem State.closeAct_asked (s : State) : s.closeAct.window.asked = [] := rfl

/-! ### Records read after they are written -/

theorem modEntry_get {α : Type} {n : Nat} (v : Vector α n) (i j : Fin n) (f : α → α) :
    (modEntry v i f)[j] = if j = i then f v[i] else v[j] := by
  simp only [modEntry, Fin.getElem_fin, Vector.getElem_set, Fin.ext_iff, eq_comm]

theorem State.modLane_lane (s : State) (l m : LaneNo) (f : Lane → Lane) :
    (s.modLane l f).lane m = if m = l then f (s.lane l) else s.lane m := modEntry_get _ _ _ _

theorem State.modGroup_group (s : State) (g h : GroupNo) (f : Group → Group) :
    (s.modGroup g f).group h = if h = g then f (s.group g) else s.group h := modEntry_get _ _ _ _

theorem State.modDetector_detector (s : State) (i j : InputNo) (f : Detector → Detector) :
    (s.modDetector i f).detector j = if j = i then f (s.detector i) else s.detector j := modEntry_get _ _ _ _

theorem State.modChannel_channel (s : State) (c d : ChannelNo) (f : Channel → Channel) :
    (s.modChannel c f).channel d = if d = c then f (s.channel c) else s.channel d := modEntry_get _ _ _ _

@[simp] theorem State.modLane_lane_same (s : State) (l : LaneNo) (f : Lane → Lane) :
    (s.modLane l f).lane l = f (s.lane l) := by simp [State.modLane_lane]

@[simp] theorem State.modGroup_group_same (s : State) (g : GroupNo) (f : Group → Group) :
    (s.modGroup g f).group g = f (s.group g) := by simp [State.modGroup_group]

@[simp] theorem State.modDetector_detector_same (s : State) (i : InputNo) (f : Detector → Detector) :
    (s.modDetector i f).detector i = f (s.detector i) := by simp [State.modDetector_detector]

@[simp] theorem State.modChannel_channel_same (s : State) (c : ChannelNo) (f : Channel → Channel) :
    (s.modChannel c f).channel c = f (s.channel c) := by simp [State.modChannel_channel]

theorem mapTable_get {α β : Type} {n : Nat} (f : α → β) (v : Vector α n) (i : Nat) (h : i < n) :
    (mapTable f v)[i] = f v[i] := by
  simp [mapTable]

theorem table_get {α : Type} (n : Nat) (f : Fin n → α) (i : Nat) (h : i < n) : (table n f)[i] = f ⟨i, h⟩ := by
  simp [table]


end Sys2Proof.Machine
end

