-- ==== Sys2Proof/Laws/Outcome.lean ====
section
/-! SUPPORT. What the shared shapes of a meaning can answer: `act`, `pin`, `judged` and `State.expire`. -/

namespace Sys2Proof.Machine

/-- With power the act is taken. -/
theorem act_alive {s : State} (h : s.alive = true) (f : State → State) : act s f = .next (f s) := by simp [act, h]

/-- Without power nothing acts. -/
theorem act_dead {s : State} (h : s.alive = false) (f : State → State) : act s f = .next s := by simp [act, h]

/-- Whatever holds of the state and of the state that the act makes holds of what `act` answers. -/
theorem act_next {s t : State} {f : State → State} (h : act s f = .next t) : t = if s.alive then f s else s := by
  unfold act at h
  cases h
  rfl

theorem act_rule {P : State → Prop} {s t : State} {f : State → State} (h : act s f = .next t) (hs : P s)
    (hf : s.alive = true → P (f s)) : P t := by
  rw [act_next h]
  split
  · exact hf ‹_›
  · exact hs

/-- An input that shows the level already changes nothing. -/
theorem pin_same (s : State) (read f : State → State) : pin s true read f = .next s := rfl

/-- An input that turns is read, and acted on with power. -/
theorem pin_turned (s : State) (read f : State → State) :
    pin s false read f = .next (if s.alive then f (read s) else read s) := rfl

theorem pin_rule {P : State → Prop} {s t : State} {same : Bool} {read f : State → State}
    (h : pin s same read f = .next t) (hs : P s) (hr : P (read s)) (hf : s.alive = true → P (f (read s))) : P t := by
  unfold pin at h
  cases h
  split
  · exact hs
  · split
    · exact hf ‹_›
    · exact hr

theorem judged_rule {P : State → Prop} {s t : State} {w : Bool} {f : State → State} (h : judged w s f = .next t)
    (hs : P s) (hr : P (s.refuse .notPermitted)) (hf : s.alive = true → w = true → P (f s)) : P t :=
  act_rule h hs fun ha => by
    split
    · exact hf ha ‹_›
    · exact hr

/-- A stopped timer does not run out. -/
@[simp] theorem State.expire_none (s : State) (f : State → State) : s.expire none f = s := rfl

/-- A running timer's expiry brings the clock to its moment. -/
@[simp] theorem State.expire_some (s : State) (due : Nat) (f : State → State) :
    s.expire (some due) f = f (s.reach due) := rfl

theorem State.expire_rule {P : State → Prop} {s : State} (t : Timer) (f : State → State) (hs : P s)
    (hf : ∀ due, t = some due → P (f (s.reach due))) : P (s.expire t f) := by
  cases t with
  | none => exact hs
  | some due => exact hf due rfl

/-- What holds of a start and is kept by every turn holds after a fold. -/
theorem foldl_rule {α : Type} {P : State → Prop} {f : State → α → State} (hf : ∀ s a, P s → P (f s a)) :
    ∀ (l : List α) (s : State), P s → P (l.foldl f s)
  | [], _, h => h
  | a :: l, s, h => foldl_rule hf l (f s a) (hf s a h)

/-- What every reaction keeps, the reactions of an act keep. -/
theorem settle_rule {P : State → Prop} (hr : ∀ s t, P s → reaction s = some t → P t) :
    ∀ (n : Nat) (s : State), P s → P (settle n s)
  | 0, _, h => h
  | n + 1, s, h => by
    unfold settle
    split
    · exact settle_rule hr n _ (hr s _ h ‹_›)
    · exact h

/-- A reaction is one of the eight. -/
theorem reaction_cases {s t : State} (h : reaction s = some t) :
    closureReaction s = some t ∨ lanesReaction s = some t ∨ deckReaction s = some t ∨ groupsReaction s = some t ∨
    haltReaction s = some t ∨ openingReaction s = some t ∨ pairReaction s = some t ∨ grantReaction s = some t := by
  simp only [reaction, reactions] at h
  obtain ⟨r, hr, h⟩ := List.exists_of_findSome?_eq_some h
  simp only [List.mem_cons, List.not_mem_nil, or_false] at hr
  rcases hr with rfl | rfl | rfl | rfl | rfl | rfl | rfl | rfl <;> simp [h]

/-- A lanes' reaction is one lane's. -/
theorem lanesReaction_cases {s t : State} (h : lanesReaction s = some t) : ∃ l, laneReaction s l = some t := by
  obtain ⟨l, -, h⟩ := List.exists_of_findSome?_eq_some h
  exact ⟨l, h⟩

/-- A groups' reaction is one group's. -/
theorem groupsReaction_cases {s t : State} (h : groupsReaction s = some t) : ∃ g, groupReaction s g = some t := by
  obtain ⟨g, -, h⟩ := List.exists_of_findSome?_eq_some h
  exact ⟨g, h⟩

/-- A halt reaction takes one cause whose condition holds and that is not in the set. -/
theorem haltReaction_cases {s t : State} (h : haltReaction s = some t) :
    ∃ c, s.haltCondition c = true ∧ s.motion.pair.halts.has c = false ∧ t = s.halt c := by
  obtain ⟨c, -, h⟩ := List.exists_of_findSome?_eq_some h
  split at h
  · cases h
    rename_i hc
    simp only [Bool.and_eq_true, Bool.not_eq_true'] at hc
    exact ⟨c, hc.1, hc.2, rfl⟩
  · cases h

end Sys2Proof.Machine
end

