-- ==== Sys2Proof/Laws/Queue.lean ====
section
/-! SUPPORT. The form of the Start Window's queue (R161, R162): joining it, leaving it and a grant keep it. -/

namespace Sys2Proof.Machine

/-- What follows the head of a queue is a queue. -/
theorem queueOk_tail {r : Requester} {q : List Requester} (h : queueOk (r :: q)) : queueOk q :=
  ⟨(List.nodup_cons.1 h.1).2, (List.pairwise_cons.1 h.2).2⟩

/-- The empty queue. -/
theorem queueOk_nil : queueOk [] := ⟨List.nodup_nil, List.Pairwise.nil⟩

/-- A requester that leaves lets the others close up. -/
theorem queueOk_filter (f : Requester → Bool) {q : List Requester} (h : queueOk q) : queueOk (q.filter f) :=
  ⟨h.1.filter _, h.2.filter _⟩

theorem queueOk_leave (r : Requester) {q : List Requester} (h : queueOk q) : queueOk (leaveQueue q r) :=
  queueOk_filter _ h

/-- No one of class LIFT stands behind the first of class BARRIER. -/
theorem queueOk_dropWhile {q : List Requester} (h : queueOk q) : ∀ x ∈ q.dropWhile isLift, isLift x = false := by
  induction q with
  | nil => simp
  | cons a q ih =>
    simp only [List.dropWhile_cons]
    split
    · exact ih (queueOk_tail h)
    · rename_i ha
      intro x hx
      simp only [List.mem_cons] at hx
      rcases hx with rfl | hx
      · simpa using ha
      · have := (List.pairwise_cons.1 h.2).1 x hx
        cases hb : isLift x
        · rfl
        · exact absurd (this hb) ha

/-- Class LIFT stands in front of the first of class BARRIER. -/
theorem isLift_takeWhile (q : List Requester) : ∀ x ∈ q.takeWhile isLift, isLift x = true := by
  induction q with
  | nil => simp
  | cons a q ih =>
    simp only [List.takeWhile_cons]
    split
    · intro x hx
      simp only [List.mem_cons] at hx
      rcases hx with rfl | hx
      · assumption
      · exact ih x hx
    · simp

/-- A request that joins its class stands in it once, with the others as they were. -/
theorem joinClass_perm (asked q : List Requester) (r : Requester) : (joinClass asked q r).Perm (r :: q) := by
  unfold joinClass
  refine List.perm_middle.trans (.cons _ ?_)
  rw [List.takeWhile_append_dropWhile]

/-- A request that joins keeps the queue's form. -/
theorem queueOk_join (asked : List Requester) (r : Requester) {q : List Requester} (h : queueOk q) :
    queueOk (joinQueue asked q r) := by
  obtain ⟨hn, hp⟩ := h
  have e : q.takeWhile isLift ++ q.dropWhile isLift = q := List.takeWhile_append_dropWhile
  have ht := isLift_takeWhile q
  have hd := queueOk_dropWhile ⟨hn, hp⟩
  have key : ∀ a b : List Requester, (a ++ b).Perm (r :: q) → (∀ x ∈ a, isLift x = true) →
      (∀ x ∈ b, isLift x = false) → r ∉ q → queueOk (a ++ b) := by
    intro a b hab ha hb hr
    refine ⟨hab.nodup_iff.2 (List.nodup_cons.2 ⟨hr, hn⟩), ?_⟩
    rw [List.pairwise_append]
    refine ⟨List.Pairwise.imp_of_mem (fun hx _ _ _ => ha _ hx) (List.pairwise_of_forall (fun _ _ => trivial)),
      List.Pairwise.imp_of_mem (fun _ hy _ h => absurd h (by simp [hb _ hy]))
        (List.pairwise_of_forall (fun _ _ => trivial)), fun x hx _ _ _ => ha x hx⟩
  unfold joinQueue
  split
  · exact ⟨hn, hp⟩
  · rename_i hr
    split
    · rename_i hl
      refine key _ _ ?_ ?_ hd hr
      · refine ((joinClass_perm _ _ _).append_right _).trans ?_
        rw [List.cons_append, e]
      · intro x hx
        rcases List.mem_cons.1 ((joinClass_perm _ _ _).mem_iff.1 hx) with rfl | hx
        · exact hl
        · exact ht x hx
    · rename_i hl
      refine key _ _ ?_ ht ?_ hr
      · refine ((joinClass_perm _ _ _).append_left _).trans ?_
        refine List.perm_middle.trans ?_
        rw [e]
      · intro x hx
        rcases List.mem_cons.1 ((joinClass_perm _ _ _).mem_iff.1 hx) with rfl | hx
        · simpa using hl
        · exact hd x hx

end Sys2Proof.Machine
end

