-- ==== Sys2Proof/Laws/ActFrame.lean ====
section
/-! SUPPORT. What the reactions of an act never touch: the clock, the site table, the inputs and their filters, the
counts, the wind, the link's buffers, the tags of the book. Every operation that a reaction uses has its lemma here. -/

namespace Sys2Proof.Machine

/-- Two lane records alike but for the sequence of closing: their site fields, counts and hold are the same. -/
structure LaneKept (x y : Lane) : Prop where
  present : y.present = x.present
  approach : y.approach = x.approach
  kind : y.kind = x.kind
  role : y.role = x.role
  group : y.group = x.group
  input1 : y.input1 = x.input1
  input2 : y.input2 = x.input2
  count : y.count = x.count
  hold : y.hold = x.hold
  duration : y.duration = x.duration
  durationTimer : y.durationTimer = x.durationTimer
  obstructed : y.obstructed = x.obstructed

/-- Two group records with the same inputs. -/
structure GroupKept (x y : Group) : Prop where
  downSwitch : y.downSwitch = x.downSwitch
  upSwitch : y.upSwitch = x.upSwitch
  obstruction : y.obstruction = x.obstruction

/-- Two channel records with the same assignment, state, sense and failures. -/
structure ChannelKept (x y : Channel) : Prop where
  assignment : y.assignment = x.assignment
  state : y.state = x.state
  sense : y.sense = x.sense
  failures : y.failures = x.failures

/-- Two leaf records with the same count and switches. -/
structure LeafKept (x y : Leaf) : Prop where
  count : y.count = x.count
  countValid : y.countValid = x.countValid
  seat : y.seat = x.seat
  fullOpen : y.fullOpen = x.fullOpen

/-- Two lock records with the same switches. -/
structure LockKept (x y : Lock) : Prop where
  drivenSwitch : y.drivenSwitch = x.drivenSwitch
  withdrawnSwitch : y.withdrawnSwitch = x.withdrawnSwitch

/-- What the reactions of an act leave as it was; a factor that was pending still is. -/
structure ActFrame (s t : State) : Prop where
  pending : t.pending = s.pending
  alive : t.alive = s.alive
  clock : t.clock = s.clock
  response : t.link.response = s.link.response
  sent : t.link.sent = s.link.sent
  floor : t.link.floor = s.link.floor
  factors : ∀ n, s.link.factors.getLsbD n = true → t.link.factors.getLsbD n = true
  site : t.site = s.site
  beam : t.beam = s.beam
  detectors : t.detectors = s.detectors
  wind : t.wind = s.wind
  nvmSerial : t.nvmSerial = s.nvmSerial
  estopRaw : t.motion.estopRaw = s.motion.estopRaw
  estop : t.motion.estop = s.motion.estop
  estopTimer : t.motion.estopTimer = s.motion.estopTimer
  periodTimer : t.motion.periodTimer = s.motion.periodTimer
  skewWarning : t.motion.pair.skewWarning = s.motion.pair.skewWarning
  phaseB : t.lamps.phaseB = s.lamps.phaseB
  flashTimer : t.lamps.flashTimer = s.lamps.flashTimer
  periodicTimer : t.lamps.periodicTimer = s.lamps.periodicTimer
  firstFailure : t.lamps.firstFailure = s.lamps.firstFailure
  lane : ∀ l, LaneKept (s.lane l) (t.lane l)
  group : ∀ g, GroupKept (s.group g) (t.group g)
  channel : ∀ c, ChannelKept (s.channel c) (t.channel c)
  leaf : ∀ i, LeafKept (s.leaf i) (t.leaf i)
  lock : ∀ k, LockKept (s.lock k) (t.lock k)
  pump : ∀ i, (t.pump i).runningInput = (s.pump i).runningInput
  slots : ∀ (i : Nat) (h : i < 16),
    t.book.slots[i].map (fun p => (p.tag, p.slot)) = s.book.slots[i].map fun p => (p.tag, p.slot)
  clearedOrder : t.book.clearedOrder = s.book.clearedOrder
  queue : queueOk s.window.queue → queueOk t.window.queue
  grants : s.window.grants.length ≤ s.cfg Entry.startLimit → t.window.grants.length ≤ s.cfg Entry.startLimit

theorem LaneKept.refl (x : Lane) : LaneKept x x := by constructor <;> rfl
theorem GroupKept.refl (x : Group) : GroupKept x x := by constructor <;> rfl
theorem ChannelKept.refl (x : Channel) : ChannelKept x x := by constructor <;> rfl
theorem LeafKept.refl (x : Leaf) : LeafKept x x := by constructor <;> rfl
theorem LockKept.refl (x : Lock) : LockKept x x := by constructor <;> rfl

theorem LaneKept.trans {x y z : Lane} (a : LaneKept x y) (b : LaneKept y z) : LaneKept x z := by
  cases a; cases b; constructor <;> simp_all

theorem GroupKept.trans {x y z : Group} (a : GroupKept x y) (b : GroupKept y z) : GroupKept x z := by
  cases a; cases b; constructor <;> simp_all

theorem ChannelKept.trans {x y z : Channel} (a : ChannelKept x y) (b : ChannelKept y z) : ChannelKept x z := by
  cases a; cases b; constructor <;> simp_all

theorem LeafKept.trans {x y z : Leaf} (a : LeafKept x y) (b : LeafKept y z) : LeafKept x z := by
  cases a; cases b; constructor <;> simp_all

theorem LockKept.trans {x y z : Lock} (a : LockKept x y) (b : LockKept y z) : LockKept x z := by
  cases a; cases b; constructor <;> simp_all

theorem ActFrame.refl (s : State) : ActFrame s s where
  pending := rfl
  alive := rfl
  clock := rfl
  response := rfl
  sent := rfl
  floor := rfl
  factors _ h := h
  site := rfl
  beam := rfl
  detectors := rfl
  wind := rfl
  nvmSerial := rfl
  estopRaw := rfl
  estop := rfl
  estopTimer := rfl
  periodTimer := rfl
  skewWarning := rfl
  phaseB := rfl
  flashTimer := rfl
  periodicTimer := rfl
  firstFailure := rfl
  lane _ := .refl _
  group _ := .refl _
  channel _ := .refl _
  leaf _ := .refl _
  lock _ := .refl _
  pump _ := rfl
  slots _ _ := rfl
  clearedOrder := rfl
  queue h := h
  grants h := h

theorem ActFrame.trans {s t u : State} (a : ActFrame s t) (b : ActFrame t u) : ActFrame s u where
  pending := b.pending.trans a.pending
  alive := b.alive.trans a.alive
  clock := b.clock.trans a.clock
  response := b.response.trans a.response
  sent := b.sent.trans a.sent
  floor := b.floor.trans a.floor
  factors n h := b.factors n (a.factors n h)
  site := b.site.trans a.site
  beam := b.beam.trans a.beam
  detectors := b.detectors.trans a.detectors
  wind := b.wind.trans a.wind
  nvmSerial := b.nvmSerial.trans a.nvmSerial
  estopRaw := b.estopRaw.trans a.estopRaw
  estop := b.estop.trans a.estop
  estopTimer := b.estopTimer.trans a.estopTimer
  periodTimer := b.periodTimer.trans a.periodTimer
  skewWarning := b.skewWarning.trans a.skewWarning
  phaseB := b.phaseB.trans a.phaseB
  flashTimer := b.flashTimer.trans a.flashTimer
  periodicTimer := b.periodicTimer.trans a.periodicTimer
  firstFailure := b.firstFailure.trans a.firstFailure
  lane l := (a.lane l).trans (b.lane l)
  group g := (a.group g).trans (b.group g)
  channel c := (a.channel c).trans (b.channel c)
  leaf i := (a.leaf i).trans (b.leaf i)
  lock k := (a.lock k).trans (b.lock k)
  pump i := (b.pump i).trans (a.pump i)
  slots i h := (b.slots i h).trans (a.slots i h)
  clearedOrder := b.clearedOrder.trans a.clearedOrder
  queue h := b.queue (a.queue h)
  grants h := by
    have e : t.cfg Entry.startLimit = s.cfg Entry.startLimit := by simp only [State.cfg, a.site]
    have c := b.grants
    rw [e] at c
    exact c (a.grants h)

/-- A fold of turns that each keep the frame keeps it. -/
theorem ActFrame.foldl {α : Type} {f : State → α → State} (hf : ∀ s a, ActFrame s (f s a)) (l : List α) (s : State) :
    ActFrame s (l.foldl f s) :=
  foldl_rule (P := ActFrame s) (fun t a h => h.trans (hf t a)) l s (.refl s)

/-! ### The updates that reactions are made of -/

theorem ActFrame.modLane (s : State) (l : LaneNo) {f : Lane → Lane} (hf : ∀ x, LaneKept x (f x)) :
    ActFrame s (s.modLane l f) :=
  { ActFrame.refl s with
    lane := fun m => by
      rw [State.modLane_lane]
      split
      · subst m
        exact hf _
      · exact .refl _ }

theorem ActFrame.modGroup (s : State) (g : GroupNo) {f : Group → Group} (hf : ∀ x, GroupKept x (f x)) :
    ActFrame s (s.modGroup g f) :=
  { ActFrame.refl s with
    group := fun m => by
      rw [State.modGroup_group]
      split
      · subst m
        exact hf _
      · exact .refl _ }

theorem ActFrame.modChannel (s : State) (c : ChannelNo) {f : Channel → Channel} (hf : ∀ x, ChannelKept x (f x)) :
    ActFrame s (s.modChannel c f) :=
  { ActFrame.refl s with
    channel := fun m => by
      rw [State.modChannel_channel]
      split
      · subst m
        exact hf _
      · exact .refl _ }

theorem ActFrame.modLeaf (s : State) (i : Side) {f : Leaf → Leaf} (hf : ∀ x, LeafKept x (f x)) :
    ActFrame s (s.modLeaf i f) := by
  have h : ∀ j, LeafKept (s.leaf j) ((s.modLeaf i f).leaf j) := fun j => by
    rw [State.modLeaf_leaf]
    split
    · subst j
      exact hf _
    · exact .refl _
  cases i <;> exact { ActFrame.refl s with leaf := h }

theorem ActFrame.modLock (s : State) (k : LockId) {f : Lock → Lock} (hf : ∀ x, LockKept x (f x)) :
    ActFrame s (s.modLock k f) := by
  have h : ∀ j, LockKept (s.lock j) ((s.modLock k f).lock j) := fun j => by
    rw [State.modLock_lock]
    split
    · subst j
      exact hf _
    · exact .refl _
  cases k <;> exact { ActFrame.refl s with lock := h }

theorem ActFrame.modPump (s : State) (i : Side) {f : Pump → Pump} (hf : ∀ x, (f x).runningInput = x.runningInput) :
    ActFrame s (s.modPump i f) := by
  have h : ∀ j, ((s.modPump i f).pump j).runningInput = (s.pump j).runningInput := fun j => by
    rw [State.modPump_pump]
    split
    · subst j
      exact hf _
    · rfl
  cases i <;> exact { ActFrame.refl s with pump := h }

theorem ActFrame.modPair (s : State) {f : Pair → Pair} (hf : ∀ x, (f x).skewWarning = x.skewWarning) :
    ActFrame s (s.modPair f) :=
  { ActFrame.refl s with skewWarning := hf _ }

theorem ActFrame.modPassage (s : State) (t : Tag) {f : Passage → Passage}
    (hf : ∀ p, (f p).tag = p.tag ∧ (f p).slot = p.slot) : ActFrame s (s.modPassage t f) :=
  { ActFrame.refl s with
    slots := fun i h => by
      simp only [State.modPassage, mapTable_get, Option.map_map]
      cases s.book.slots[i] with
      | none => rfl
      | some p =>
        simp only [Option.map_some, Function.comp_apply]
        split <;> simp [hf] }

theorem ActFrame.modOpening (s : State) (f : Opening → Opening) : ActFrame s (s.modOpening f) :=
  { ActFrame.refl s with }

theorem ActFrame.setWaiting (s : State) (ts : List Tag) : ActFrame s (s.setWaiting ts) := { ActFrame.refl s with }

theorem ActFrame.raise (s : State) (f : Factor) : ActFrame s (s.raise f) :=
  { ActFrame.refl s with
    factors := fun n h => by simp only [State.raise_factors, BitVec.getLsbD_or, h, Bool.true_or] }

theorem ActFrame.request (s : State) (r : Requester) : ActFrame s (s.request r) :=
  { ActFrame.refl s with queue := queueOk_join s.window.asked r }

theorem ActFrame.closeAct (s : State) : ActFrame s s.closeAct := { ActFrame.refl s with }

theorem ActFrame.withdraw (s : State) (r : Requester) : ActFrame s (s.withdraw r) :=
  { ActFrame.refl s with queue := queueOk_leave r }

/-- A grant: the head leaves the queue and the list takes an entry for which it has room. -/
theorem ActFrame.grant (s : State) (r : Requester) (rest : List Requester) (g : Grant) (hq : s.window.queue = r :: rest)
    (hg : s.window.grants.length < s.cfg Entry.startLimit) :
    ActFrame s { s with window := { s.window with queue := rest, grants := s.window.grants ++ [g] } } :=
  { ActFrame.refl s with
    queue := fun h => queueOk_tail (hq ▸ h)
    grants := fun _ => by
      simp only [List.length_append, List.length_cons, List.length_nil]
      omega }

end Sys2Proof.Machine
end

