-- ==== Sys2Proof/Laws/BookFrame.lean ====
section
/-! SUPPORT. The opening's operations and reactions keep the frame of an act. -/

namespace Sys2Proof.Machine

theorem State.enterOpening_frame (s : State) (st : OpeningState) : ActFrame s (s.enterOpening st) :=
  (ActFrame.modOpening s _).trans (.raise _ _)

theorem State.removeOpening_frame (s : State) : ActFrame s s.removeOpening := by
  have h : ActFrame s { s with book := { s.book with
      opening := none
      roadTimer := s.inSeconds (s.cfg Entry.roadInterval) } } := { ActFrame.refl s with }
  exact h.trans (.raise _ _)

theorem State.becomeCalled_frame (n : Nat) (s : State) (t : Tag) : ActFrame s (State.becomeCalled n s t) :=
  .modPassage s t (by intro; exact ⟨rfl, rfl⟩)

theorem ActFrame.setOpening (s : State) (n : Nat) (o : Opening) :
    ActFrame s { s with book := { s.book with lastNumber := n, opening := some o } } := { ActFrame.refl s with }

theorem State.callOpening_frame (s : State) : ActFrame s s.callOpening := by
  have h := (ActFrame.setWaiting s (s.book.waiting.filter fun t => t ∉ s.calledOpening.members)).trans
    (.foldl (State.becomeCalled_frame s.calledOpening.number) s.calledOpening.members _)
  exact (h.trans (.setOpening _ s.calledOpening.number s.calledOpening)).trans (.raise _ _)

theorem State.unlist_frame (s : State) (t : Tag) : ActFrame s (s.unlist t) := .setWaiting s _

theorem State.placeNew_frame (s : State) (t : Tag) : ActFrame s (s.placeNew t) := by
  unfold State.placeNew
  dsimp only
  split <;> exact .setWaiting s _

theorem State.placeReturned_frame (s : State) (ts : List Tag) : ActFrame s (s.placeReturned ts) := .setWaiting s _

theorem State.offer_frame (s : State) (t : Tag) : ActFrame s (s.offer t) := by
  unfold State.offer
  repeat' split
  · exact ((s.unlist_frame t).trans (State.becomeCalled_frame _ _ _)).trans (.modOpening _ _)
  all_goals exact .refl s

theorem State.giveProceed_frame (s : State) : ActFrame s s.giveProceed := by
  unfold State.giveProceed
  split
  · exact .refl s
  · exact ((ActFrame.modPassage s _ (by intro; exact ⟨rfl, rfl⟩)).trans (.modOpening _ _)).trans (.raise _ _)

theorem State.takeProceed_frame (s : State) (t : Tag) : ActFrame s (s.takeProceed t) :=
  (ActFrame.modPassage s t (by intro; exact ⟨rfl, rfl⟩)).trans (.modOpening _ _)

theorem State.leaveMembers_frame (s : State) (t : Tag) : ActFrame s (s.leaveMembers t) := .modOpening s _

theorem State.endService_frame (s : State) : ActFrame s s.endService := .modOpening s _

theorem State.membersReturn_frame (s : State) : ActFrame s s.membersReturn :=
  ((ActFrame.foldl (fun s t => .modPassage s t (by intro; exact ⟨rfl, rfl⟩)) _ s).trans (State.placeReturned_frame _ _)).trans
    (.modOpening _ _)

theorem State.setLastCall_frame (s : State) : ActFrame s s.setLastCall := .modOpening s _

theorem forcedReaction_frame {s t : State} {o : Opening} (h : forcedReaction s o = some t) : ActFrame s t := by
  unfold forcedReaction at h
  dsimp only at h
  repeat' split at h
  all_goals cases h
  all_goals first
    | exact .modOpening s _
    | exact ((s.membersReturn_frame.trans (State.setLastCall_frame _)).trans (.modOpening _ _)).trans
        (State.enterOpening_frame _ _)
    | exact (s.membersReturn_frame.trans (.modOpening _ _)).trans (State.enterOpening_frame _ _)

theorem stateReaction_frame {s t : State} {o : Opening} (h : stateReaction s o = some t) : ActFrame s t := by
  unfold stateReaction at h
  repeat' split at h
  all_goals cases h
  all_goals first
    | with_reducible exact s.setLastCall_frame
    | with_reducible exact s.enterOpening_frame _
    | with_reducible exact s.removeOpening_frame
    | exact s.setLastCall_frame.trans (State.enterOpening_frame _ _)

theorem returnReaction_frame {s t : State} (h : returnReaction s = some t) : ActFrame s t := by
  unfold returnReaction at h
  split at h
  · simp only [Option.map_eq_some_iff] at h
    obtain ⟨tag, -, rfl⟩ := h
    exact s.takeProceed_frame tag
  · cases h

theorem deadlineReaction_frame {s t : State} {o : Opening} (h : deadlineReaction s o = some t) : ActFrame s t := by
  unfold deadlineReaction at h
  split at h <;> cases h
  exact s.setLastCall_frame

/-- What the opening does of itself is a call, or one of its five reactions. -/
theorem openingReaction_cases {s t : State} (h : openingReaction s = some t) :
    (s.book.opening = none ∧ s.mayCall = true ∧ t = s.callOpening) ∨
    ∃ o, s.book.opening = some o ∧
      (forcedReaction s o = some t ∨ returnReaction s = some t ∨ deadlineReaction s o = some t ∨
        stateReaction s o = some t ∨ (s.mayProceed = true ∧ t = s.giveProceed)) := by
  unfold openingReaction at h
  split at h
  · split at h <;> cases h
    exact .inl ⟨‹_›, ‹_›, rfl⟩
  · refine .inr ⟨_, ‹_›, ?_⟩
    simp only [Option.orElse_eq_orElse, Option.orElse_eq_or, Option.or_eq_some_iff, Option.ite_none_right_eq_some,
      Option.some.injEq] at h
    rcases h with h | ⟨-, h | ⟨-, h | ⟨-, h | ⟨-, h, h'⟩⟩⟩⟩
    · exact .inl h
    · exact .inr (.inl h)
    · exact .inr (.inr (.inl h))
    · exact .inr (.inr (.inr (.inl h)))
    · exact .inr (.inr (.inr (.inr ⟨h, h'.symm⟩)))

theorem openingReaction_frame {s t : State} (h : openingReaction s = some t) : ActFrame s t := by
  rcases openingReaction_cases h with ⟨-, -, rfl⟩ | ⟨o, -, h | h | h | h | ⟨-, rfl⟩⟩
  · exact s.callOpening_frame
  · exact forcedReaction_frame h
  · exact returnReaction_frame h
  · exact deadlineReaction_frame h
  · exact stateReaction_frame h
  · exact s.giveProceed_frame

end Sys2Proof.Machine
end

