-- ==== Sys2Proof/Laws/BookOnly.lean ====
section
/-! SUPPORT. What the opening's operations and reactions leave of the other blocks: all of them, but for the factors
raised. -/

namespace Sys2Proof.Machine

/-- Only the book and the link differ. -/
structure BookOnly (s t : State) : Prop where
  pending : t.pending = s.pending
  alive : t.alive = s.alive
  clock : t.clock = s.clock
  site : t.site = s.site
  beam : t.beam = s.beam
  road : t.road = s.road
  detectors : t.detectors = s.detectors
  lamps : t.lamps = s.lamps
  motion : t.motion = s.motion
  wind : t.wind = s.wind
  window : t.window = s.window
  nvmSerial : t.nvmSerial = s.nvmSerial

theorem BookOnly.refl (s : State) : BookOnly s s := by constructor <;> rfl

theorem BookOnly.trans {s t u : State} (a : BookOnly s t) (b : BookOnly t u) : BookOnly s u := by
  cases a; cases b; constructor <;> simp_all

theorem BookOnly.foldl {α : Type} {f : State → α → State} (hf : ∀ s a, BookOnly s (f s a)) (l : List α) (s : State) :
    BookOnly s (l.foldl f s) :=
  foldl_rule (P := BookOnly s) (fun t a h => h.trans (hf t a)) l s (.refl s)

/-- The whole state, but for the book and the link. -/
theorem BookOnly.eq {s t : State} (h : BookOnly s t) : { t with book := s.book, link := s.link } = s := by
  cases s; cases t; cases h; simp_all

theorem BookOnly.modPassage (s : State) (t : Tag) (f : Passage → Passage) : BookOnly s (s.modPassage t f) := by
  constructor <;> rfl

theorem BookOnly.modOpening (s : State) (f : Opening → Opening) : BookOnly s (s.modOpening f) := by
  constructor <;> rfl

theorem BookOnly.setWaiting (s : State) (ts : List Tag) : BookOnly s (s.setWaiting ts) := by constructor <;> rfl

theorem BookOnly.raise (s : State) (f : Factor) : BookOnly s (s.raise f) := by constructor <;> rfl

theorem State.enterOpening_book (s : State) (st : OpeningState) : BookOnly s (s.enterOpening st) :=
  (BookOnly.modOpening s _).trans (.raise _ _)

theorem State.removeOpening_book (s : State) : BookOnly s s.removeOpening := by
  have h : BookOnly s { s with book := { s.book with
      opening := none
      roadTimer := s.inSeconds (s.cfg Entry.roadInterval) } } := { BookOnly.refl s with }
  exact h.trans (.raise _ _)

theorem State.becomeCalled_book (n : Nat) (s : State) (t : Tag) : BookOnly s (State.becomeCalled n s t) :=
  .modPassage s t _

theorem BookOnly.setOpening (s : State) (n : Nat) (o : Opening) :
    BookOnly s { s with book := { s.book with lastNumber := n, opening := some o } } := { BookOnly.refl s with }

theorem State.callOpening_book (s : State) : BookOnly s s.callOpening := by
  have h := (BookOnly.setWaiting s (s.book.waiting.filter fun t => t ∉ s.calledOpening.members)).trans
    (.foldl (State.becomeCalled_book s.calledOpening.number) s.calledOpening.members _)
  exact (h.trans (.setOpening _ s.calledOpening.number s.calledOpening)).trans (.raise _ _)

theorem State.unlist_book (s : State) (t : Tag) : BookOnly s (s.unlist t) := .setWaiting s _

theorem State.placeNew_book (s : State) (t : Tag) : BookOnly s (s.placeNew t) := by
  unfold State.placeNew
  dsimp only
  split <;> exact .setWaiting s _

theorem State.placeReturned_book (s : State) (ts : List Tag) : BookOnly s (s.placeReturned ts) := .setWaiting s _

theorem State.offer_book (s : State) (t : Tag) : BookOnly s (s.offer t) := by
  unfold State.offer
  repeat' split
  · exact ((s.unlist_book t).trans (State.becomeCalled_book _ _ _)).trans (.modOpening _ _)
  all_goals exact .refl s

theorem State.giveProceed_book (s : State) : BookOnly s s.giveProceed := by
  unfold State.giveProceed
  split
  · exact .refl s
  · exact ((BookOnly.modPassage s _ _).trans (.modOpening _ _)).trans (.raise _ _)

theorem State.takeProceed_book (s : State) (t : Tag) : BookOnly s (s.takeProceed t) :=
  (BookOnly.modPassage s t _).trans (.modOpening _ _)

theorem State.leaveMembers_book (s : State) (t : Tag) : BookOnly s (s.leaveMembers t) := .modOpening s _

theorem State.endService_book (s : State) : BookOnly s s.endService := .modOpening s _

theorem State.membersReturn_book (s : State) : BookOnly s s.membersReturn :=
  ((BookOnly.foldl (fun s t => .modPassage s t _) _ s).trans (State.placeReturned_book _ _)).trans
    (.modOpening _ _)

theorem State.setLastCall_book (s : State) : BookOnly s s.setLastCall := .modOpening s _

theorem forcedReaction_book {s t : State} {o : Opening} (h : forcedReaction s o = some t) : BookOnly s t := by
  unfold forcedReaction at h
  dsimp only at h
  repeat' split at h
  all_goals cases h
  all_goals first
    | exact .modOpening s _
    | exact ((s.membersReturn_book.trans (State.setLastCall_book _)).trans (.modOpening _ _)).trans
        (State.enterOpening_book _ _)
    | exact (s.membersReturn_book.trans (.modOpening _ _)).trans (State.enterOpening_book _ _)

theorem stateReaction_book {s t : State} {o : Opening} (h : stateReaction s o = some t) : BookOnly s t := by
  unfold stateReaction at h
  repeat' split at h
  all_goals cases h
  all_goals first
    | with_reducible exact s.setLastCall_book
    | with_reducible exact s.enterOpening_book _
    | with_reducible exact s.removeOpening_book
    | exact s.setLastCall_book.trans (State.enterOpening_book _ _)

theorem returnReaction_book {s t : State} (h : returnReaction s = some t) : BookOnly s t := by
  unfold returnReaction at h
  split at h
  · simp only [Option.map_eq_some_iff] at h
    obtain ⟨tag, -, rfl⟩ := h
    exact s.takeProceed_book tag
  · cases h

theorem deadlineReaction_book {s t : State} {o : Opening} (h : deadlineReaction s o = some t) : BookOnly s t := by
  unfold deadlineReaction at h
  split at h <;> cases h
  exact s.setLastCall_book

theorem openingReaction_book {s t : State} (h : openingReaction s = some t) : BookOnly s t := by
  rcases openingReaction_cases h with ⟨-, -, rfl⟩ | ⟨o, -, h | h | h | h | ⟨-, rfl⟩⟩
  · exact s.callOpening_book
  · exact forcedReaction_book h
  · exact returnReaction_book h
  · exact deadlineReaction_book h
  · exact stateReaction_book h
  · exact s.giveProceed_book

end Sys2Proof.Machine
end

