-- ==== Sys2Proof/Laws/RoadFrame.lean ====
section
/-! SUPPORT. The road's operations and reactions keep the frame of an act. -/

namespace Sys2Proof.Machine

theorem Lane.enter_kept (x : Lane) (st : LaneState) : LaneKept x (x.enter st) := by constructor <;> rfl

theorem Lane.closedOrHeld_kept (x : Lane) : LaneKept x x.closedOrHeld := x.enter_kept _

theorem Group.settle_kept (x : Group) (st : GroupState) : GroupKept x (x.settle st) := by constructor <;> rfl

theorem State.enterLane_frame (s : State) (l : LaneNo) (st : LaneState) : ActFrame s (s.modLane l (·.enter st)) :=
  .modLane s l fun x => x.enter_kept st

theorem State.closeLane_frame (s : State) (l : LaneNo) : ActFrame s (s.modLane l Lane.closedOrHeld) :=
  .modLane s l Lane.closedOrHeld_kept

theorem State.enterClearing_frame (s : State) (l : LaneNo) : ActFrame s (s.enterClearing l) :=
  .modLane s l fun x => by constructor <;> rfl

theorem State.beginClosing_frame (s : State) (l : LaneNo) : ActFrame s (s.beginClosing l) := by
  unfold State.beginClosing
  dsimp only
  split
  · exact .modLane s l fun x => by constructor <;> rfl
  · exact s.enterClearing_frame l

theorem State.laneToFault_frame (s : State) (l : LaneNo) (c : LaneFault) : ActFrame s (s.laneToFault l c) :=
  .modLane s l fun x => by constructor <;> rfl

theorem State.askArm_frame (s : State) (g : GroupNo) (d : ArmStroke) : ActFrame s (s.askArm g d) := by
  unfold State.askArm
  cases s.motion.estop <;> simp only [Bool.false_eq_true, ↓reduceIte]
  · exact (ActFrame.modGroup s g fun x => by constructor <;> rfl).trans (.request _ _)
  · exact .modGroup s g fun x => by constructor <;> rfl

theorem State.unaskArm_frame (s : State) (g : GroupNo) (st : GroupState) : ActFrame s (s.unaskArm g st) :=
  (ActFrame.withdraw s _).trans (.modGroup _ g fun x => by constructor <;> rfl)

theorem State.laneAtDown_frame (s : State) (l : LaneNo) : ActFrame s (s.laneAtDown l) := by
  unfold State.laneAtDown
  split
  · split
    · exact s.closeLane_frame l
    · exact s.enterLane_frame l _
  · exact .refl s

theorem State.groupDown_frame (s : State) (g : GroupNo) : ActFrame s (s.groupDown g) :=
  (ActFrame.modGroup s g fun x => x.settle_kept _).trans (.foldl State.laneAtDown_frame _ _)

theorem State.groupUp_frame (s : State) (g : GroupNo) : ActFrame s (s.groupUp g) :=
  (ActFrame.modGroup s g fun x => x.settle_kept _).trans <| .foldl (fun s l => by
    split
    · exact s.enterLane_frame l _
    · exact .refl s) _ _

theorem State.laneInGroupFault_frame (c : GroupFault) (s : State) (l : LaneNo) :
    ActFrame s (s.laneInGroupFault c l) := by
  unfold State.laneInGroupFault
  split
  · exact .refl s
  · exact s.laneToFault_frame l _

theorem State.groupToFault_frame (s : State) (g : GroupNo) (c : GroupFault) : ActFrame s (s.groupToFault g c) := by
  have h : ActFrame s ((s.withdraw (groupRequester g)).modGroup g fun x => { x.settle .fault with cause := some c }) :=
    (ActFrame.withdraw s _).trans (.modGroup _ g fun x => by constructor <;> rfl)
  unfold State.groupToFault
  split
  · exact .refl s
  · dsimp only
    split
    · exact (h.trans (.foldl (State.laneInGroupFault_frame c) _ _)).trans (.raise _ _)
    · exact h

theorem State.releasingRecalled_frame (s : State) (l : LaneNo) : ActFrame s (s.releasingRecalled l) := by
  unfold State.releasingRecalled
  split
  · exact .refl s
  · split
    · exact (s.unaskArm_frame _ _).trans (State.closeLane_frame _ _)
    · exact s.closeLane_frame l
    · exact (ActFrame.modGroup s _ fun x => by constructor <;> rfl).trans (State.enterLane_frame _ _ _)
    · exact s.enterLane_frame l _
    · exact s.enterLane_frame l _
    · exact s.enterLane_frame l _
    · exact .refl s
    · exact .refl s
    · exact .refl s

theorem State.callRises_frame (s : State) (l : LaneNo) : ActFrame s (s.callRises l) := by
  unfold State.callRises
  split
  · exact s.releasingRecalled_frame l
  · exact .refl s

theorem State.callFalls_frame (s : State) (l : LaneNo) : ActFrame s (s.callFalls l) := by
  unfold State.callFalls
  dsimp only
  repeat' split
  all_goals first
    | exact .refl s
    | exact s.enterLane_frame l _
    | exact (s.unaskArm_frame _ _).trans (State.enterLane_frame _ _ _)

theorem State.setClosure_frame (s : State) (b : Bool) : ActFrame s (s.setClosure b) := by
  have h : ActFrame s { s with road := { s.road with
      closureDemand := b
      deck := if b then s.road.deck else .stopped } } := { ActFrame.refl s with }
  refine h.trans (.foldl (fun u l => ?_) _ _)
  repeat' split
  · exact u.callRises_frame l
  · exact u.callFalls_frame l
  · exact .refl u

/-! ### Reactions -/

theorem closureReaction_frame {s t : State} (h : closureReaction s = some t) : ActFrame s t := by
  unfold closureReaction at h
  split at h <;> cases h
  exact s.setClosure_frame _

theorem laneReaction_frame {s t : State} {l : LaneNo} (h : laneReaction s l = some t) : ActFrame s t := by
  unfold laneReaction at h
  dsimp only at h
  repeat' split at h
  all_goals cases h
  all_goals first
    | exact s.beginClosing_frame l
    | exact s.enterClearing_frame l
    | exact s.closeLane_frame l
    | exact s.enterLane_frame l _

theorem lanesReaction_frame {s t : State} (h : lanesReaction s = some t) : ActFrame s t := by
  obtain ⟨l, h⟩ := lanesReaction_cases h
  exact laneReaction_frame h

theorem deckReaction_frame {s t : State} (h : deckReaction s = some t) : ActFrame s t := by
  unfold deckReaction at h
  split at h <;> cases h
  exact { ActFrame.refl s with }

theorem groupReaction_frame {s t : State} {g : GroupNo} (h : groupReaction s g = some t) : ActFrame s t := by
  have recalled (ls : List LaneNo) : ActFrame s (ls.foldl
      (fun s l => if (s.lane l).state == .releasing then s.releasingRecalled l else s) s) :=
    .foldl (fun s l => by
      split
      · exact s.releasingRecalled_frame l
      · exact .refl s) ls s
  unfold groupReaction at h
  dsimp only at h
  repeat' split at h
  all_goals cases h
  all_goals first
    | exact s.askArm_frame g _
    | exact .foldl State.laneAtDown_frame _ s
    | exact recalled _
    | exact .modGroup s g fun x => by constructor <;> rfl

theorem groupsReaction_frame {s t : State} (h : groupsReaction s = some t) : ActFrame s t := by
  obtain ⟨g, h⟩ := groupsReaction_cases h
  exact groupReaction_frame h

theorem State.grantArm_frame (s : State) (g : GroupNo) : ActFrame s (s.grantArm g) :=
  .modGroup s g fun x => by split <;> constructor <;> rfl

end Sys2Proof.Machine
end

