-- ==== Sys2Proof/Laws/PairFrame.lean ====
section
/-! SUPPORT. The motion controller's operations and reactions, and the Start Window's grants, keep the frame of an
act. -/

namespace Sys2Proof.Machine

theorem State.setDemand_frame (s : State) (i : Side) (n : Nat) : ActFrame s (s.modLeaf i fun x => { x with demand := n }) :=
  .modLeaf s i fun x => by constructor <;> rfl

theorem State.setDirection_frame (s : State) (i : Side) (d : Travel) :
    ActFrame s (s.modLeaf i fun x => { x with direction := d }) :=
  .modLeaf s i fun x => by constructor <;> rfl

theorem State.stopDemands_frame (s : State) : ActFrame s s.stopDemands := by
  have h := (s.setDemand_frame .n 0).trans (State.setDemand_frame _ .s 0)
  exact h.trans { ActFrame.refl _ with }

theorem State.setTravel_frame (s : State) (d : Option Travel) : ActFrame s (s.setTravel d) := by
  cases d with
  | none => exact .refl s
  | some d => exact (s.setDirection_frame .n d).trans (State.setDirection_frame _ .s d)

theorem State.enterPair_frame (s : State) (st : PairState) : ActFrame s (s.enterPair st) :=
  (s.stopDemands_frame.trans (State.setTravel_frame _ _)).trans (.modPair _ (by intro; rfl))

theorem State.askLock_frame (s : State) (k : LockId) (d : LockStroke) : ActFrame s (s.askLock k d) := by
  have h : ActFrame s (s.modLock k fun x => { x with stroke := some d, held := s.mustHold }) :=
    .modLock s k fun x => by constructor <;> rfl
  unfold State.askLock
  dsimp only
  split
  · exact h
  · exact h.trans (.request _ _)

theorem State.askPump_frame (s : State) (i : Side) : ActFrame s (s.askPump i) := by
  have h : ActFrame s (s.modPump i fun x => { x with held := s.mustHold }) := .modPump s i (by intro; rfl)
  unfold State.askPump
  dsimp only
  split
  · exact h
  · exact h.trans (.request _ _)

theorem State.dropLock_frame (s : State) (k : LockId) : ActFrame s (s.dropLock k) :=
  (ActFrame.withdraw s _).trans (.modLock _ k fun x => by constructor <;> rfl)

theorem State.dropPump_frame (s : State) (i : Side) : ActFrame s (s.dropPump i) :=
  (ActFrame.withdraw s _).trans (.modPump _ i (by intro; rfl))

theorem State.dropLocks_frame (s : State) : ActFrame s s.dropLocks := .foldl State.dropLock_frame _ s

theorem State.dropPumps_frame (s : State) : ActFrame s s.dropPumps := .foldl State.dropPump_frame _ s

theorem State.pumpsOff_frame (s : State) : ActFrame s s.pumpsOff :=
  .foldl (fun s i => .modPump s i (by intro; rfl)) _ s

theorem State.enterLocking_frame (s : State) : ActFrame s s.enterLocking :=
  ((s.dropLocks_frame.trans (State.dropPumps_frame _)).trans (State.pumpsOff_frame _)).trans (State.enterPair_frame _ _)

theorem State.enterLocked_frame (s : State) : ActFrame s s.enterLocked :=
  (s.enterPair_frame _).trans (.modPair _ (by intro; rfl))

theorem State.enterFault_frame (s : State) (c : PairFault) : ActFrame s (s.enterFault c) := by
  unfold State.enterFault
  split
  · exact .refl s
  · have h := (s.pumpsOff_frame.trans (State.dropLocks_frame _)).trans (State.dropPumps_frame _)
    exact ((h.trans (State.enterPair_frame _ _)).trans (.modPair _ (by intro; rfl))).trans (.raise _ _)

/-! ### Halts and resumption -/

theorem State.holdLock_frame (s : State) (k : LockId) : ActFrame s (s.holdLock k) := by
  unfold State.holdLock
  split
  · exact (ActFrame.withdraw s _).trans (.modLock _ k fun x => by constructor <;> rfl)
  · exact .refl s

theorem State.holdPump_frame (s : State) (i : Side) : ActFrame s (s.holdPump i) := by
  unfold State.holdPump
  split
  · exact (ActFrame.withdraw s _).trans (.modPump _ i (by intro; rfl))
  · exact .refl s

theorem State.estopPump_frame (s : State) (i : Side) : ActFrame s (s.estopPump i) :=
  .modPump s i fun x => by split <;> rfl

theorem State.haltPumps_frame (s : State) (c : HaltCause) : ActFrame s (s.haltPumps c) := by
  unfold State.haltPumps
  split
  · exact .foldl State.estopPump_frame _ s
  · exact .refl s

theorem State.halt_frame (s : State) (c : HaltCause) : ActFrame s (s.halt c) := by
  unfold State.halt
  dsimp only
  split
  · exact ((s.haltPumps_frame c).trans (.modPair _ (by intro; rfl))).trans (.raise _ _)
  · have h := (ActFrame.foldl State.holdLock_frame allLocks s).trans (.foldl State.holdPump_frame bothSides _)
    have h' := (h.trans (State.haltPumps_frame _ c)).trans (State.stopDemands_frame _)
    exact (h'.trans (.modPair _ (by intro; rfl))).trans (.raise _ _)

theorem State.releaseLock_frame (s : State) (k : LockId) : ActFrame s (s.releaseLock k) := by
  unfold State.releaseLock
  repeat' split
  · exact (ActFrame.modLock s k fun x => by constructor <;> rfl).trans (.request _ _)
  · exact s.dropLock_frame k
  · exact .refl s

theorem State.releasePump_frame (s : State) (i : Side) : ActFrame s (s.releasePump i) := by
  unfold State.releasePump
  repeat' split
  · exact (ActFrame.modPump s i (by intro; rfl)).trans (.request _ _)
  · exact s.dropPump_frame i
  · exact .refl s

theorem State.releaseHeld_frame (s : State) : ActFrame s s.releaseHeld :=
  (ActFrame.foldl State.releaseLock_frame allLocks s).trans (.foldl State.releasePump_frame bothSides _)

theorem State.resumeMoving_frame (s : State) (st : PairState) : ActFrame s (s.resumeMoving st) := by
  unfold State.resumeMoving
  split
  · exact (s.enterPair_frame st).trans (State.releaseHeld_frame _)
  · exact ((s.enterPair_frame .starting).trans (.modPair _ (by intro; rfl))).trans (State.releaseHeld_frame _)

theorem State.resumePair_frame (s : State) : ActFrame s s.resumePair := by
  have h : ActFrame s (s.modPair fun q => { q with halts := HaltSet.empty, channelTimer := none }) :=
    .modPair s (by intro; rfl)
  have enter (st : PairState) : ActFrame s
      ((s.modPair fun q => { q with halts := HaltSet.empty, channelTimer := none }).enterPair st).releaseHeld :=
    (h.trans (State.enterPair_frame _ st)).trans (State.releaseHeld_frame _)
  unfold State.resumePair
  dsimp only
  generalize s.motion.pair.interrupted.getD .locked = p
  cases p <;> dsimp only
  case free =>
    split
    · exact h.trans (State.enterLocking_frame _)
    · exact enter _
  case starting =>
    split
    · exact h.trans (State.enterLocking_frame _)
    · exact enter _
  case raising => exact h.trans (State.resumeMoving_frame _ _)
  case isOpen => exact h.trans (State.resumeMoving_frame _ _)
  case lowering => exact h.trans (State.resumeMoving_frame _ _)
  case seating => exact h.trans (State.resumeMoving_frame _ _)
  case recovering =>
    exact ((h.trans (State.enterPair_frame _ _)).trans (.modPair _ (by intro; rfl))).trans (State.releaseHeld_frame _)
  all_goals exact enter _

/-! ### Reactions -/

theorem haltReaction_frame {s t : State} (h : haltReaction s = some t) : ActFrame s t := by
  obtain ⟨c, -, -, rfl⟩ := haltReaction_cases h
  exact s.halt_frame c

theorem State.askFirst_frame {s t : State} {ks : List LockId} {d : LockStroke} {g : LockState}
    (h : s.askFirst ks d g = some t) : ActFrame s t := by
  unfold State.askFirst at h
  simp only [Option.map_eq_some_iff] at h
  obtain ⟨k, -, rfl⟩ := h
  exact s.askLock_frame k d

theorem State.askFirstPump_frame {s t : State} {is : List Side} (h : s.askFirstPump is = some t) : ActFrame s t := by
  unfold State.askFirstPump at h
  simp only [Option.map_eq_some_iff] at h
  obtain ⟨i, -, rfl⟩ := h
  exact s.askPump_frame i

theorem unlockingReaction_frame {s t : State} (h : unlockingReaction s = some t) : ActFrame s t := by
  unfold unlockingReaction at h
  dsimp only at h
  repeat' split at h
  all_goals first
    | exact State.askFirst_frame h
    | cases h
  all_goals first
    | with_reducible exact s.dropLocks_frame
    | with_reducible exact s.enterLocking_frame
    | with_reducible exact s.enterPair_frame _

theorem startingReaction_frame {s t : State} (h : startingReaction s = some t) : ActFrame s t := by
  unfold startingReaction at h
  repeat' split at h
  all_goals first
    | exact State.askFirstPump_frame h
    | cases h
  · exact s.enterLocking_frame
  · exact s.enterPair_frame _

theorem keptReaction_frame {s t : State} {st : PairState} (h : keptReaction s st = some t) : ActFrame s t := by
  unfold keptReaction at h
  repeat' split at h
  all_goals first
    | exact State.askFirstPump_frame h
    | cases h
  · exact .modPair s (by intro; rfl)
  · exact s.enterPair_frame _

theorem lockingReaction_frame {s t : State} (h : lockingReaction s = some t) : ActFrame s t := by
  unfold lockingReaction at h
  dsimp only at h
  repeat' split at h
  all_goals first
    | exact State.askFirst_frame h
    | cases h
  exact s.enterLocked_frame

theorem recoveringReaction_frame {s t : State} (h : recoveringReaction s = some t) : ActFrame s t := by
  unfold recoveringReaction at h
  dsimp only at h
  repeat' split at h
  all_goals first
    | exact State.askFirst_frame h
    | exact State.askFirstPump_frame h
    | cases h
  · exact s.enterLocking_frame
  · exact .modPair s (by intro; rfl)
  · exact (ActFrame.modPair s (by intro; rfl)).trans { ActFrame.refl _ with }

theorem haltedReaction_frame {s t : State} (h : haltedReaction s = some t) : ActFrame s t := by
  unfold haltedReaction at h
  dsimp only at h
  repeat' split at h
  all_goals cases h
  · exact (ActFrame.modPair s (by intro; rfl)).trans (State.resumePair_frame _)
  · exact .modPair s (by intro; rfl)

theorem State.unlock_frame (s : State) : ActFrame s s.unlock := (s.enterPair_frame _).trans (.modPair _ (by intro; rfl))

theorem pairReaction_frame {s t : State} (h : pairReaction s = some t) : ActFrame s t := by
  unfold pairReaction at h
  repeat' split at h
  all_goals first
    | exact unlockingReaction_frame h
    | exact startingReaction_frame h
    | exact keptReaction_frame h
    | exact lockingReaction_frame h
    | exact recoveringReaction_frame h
    | exact haltedReaction_frame h
    | cases h
  all_goals first
    | with_reducible exact s.unlock_frame
    | with_reducible exact s.enterPair_frame _
    | with_reducible exact s.enterLocking_frame

/-! ### Grants -/

theorem Lock.strokeEnds_kept (k : Lock) : LockKept k k.strokeEnds := by constructor <;> rfl

theorem State.grantLock_frame (s : State) (k : LockId) : ActFrame s (s.grantLock k) :=
  .modLock s k fun x => by
    dsimp only
    repeat' split
    all_goals constructor <;> rfl

theorem State.grantPump_frame (s : State) (i : Side) : ActFrame s (s.grantPump i) := by
  have h : ActFrame s (s.modPump i fun x =>
      let y := { x with state := .starting, held := false, timer := s.inSeconds (s.cfg Entry.pumpStartTimeout) }
      if x.runningInput then y.proven else y) := .modPump s i fun x => by dsimp only; split <;> rfl
  unfold State.grantPump
  dsimp only
  split
  · exact h.trans (State.enterPair_frame _ _)
  · exact h

theorem State.begin_frame (s : State) (r : Requester) : ActFrame s (s.begin r) := by
  unfold State.begin
  split
  · exact s.grantLock_frame _
  · exact s.grantLock_frame _
  · exact s.grantLock_frame _
  · exact s.grantPump_frame _
  · exact s.grantPump_frame _
  · split
    · exact s.grantArm_frame _
    · exact .refl s

theorem State.grantTo_frame (s : State) (r : Requester) (rest : List Requester) (hq : s.window.queue = r :: rest)
    (hg : s.window.grants.length < s.cfg Entry.startLimit) : ActFrame s (s.grantTo r rest) :=
  (ActFrame.grant s r rest _ hq hg).trans (State.begin_frame _ r)

theorem grantReaction_frame {s t : State} (h : grantReaction s = some t) : ActFrame s t := by
  unfold grantReaction at h
  split at h
  · cases h
  · split at h
    · cases h
      exact s.grantTo_frame _ _ ‹_› ‹_›
    · cases h

end Sys2Proof.Machine
end

