-- ==== Sys2Proof/Laws/FinishFrame.lean ====
section
/-! SUPPORT. The lamp unit's part of an act keeps the frame, and so do the reactions and the whole rest of an act. -/

namespace Sys2Proof.Machine

theorem State.endTest_frame (s : State) : ActFrame s s.endTest := { ActFrame.refl s with }

theorem State.setProving_frame (s : State) (cs : List ChannelNo) : ActFrame s (s.setProving cs) :=
  { ActFrame.refl s with }

theorem State.setAspects_frame (s : State) : ActFrame s s.setAspects := { ActFrame.refl s with }

theorem State.light_frame (s : State) (c : ChannelNo) : ActFrame s (s.modChannel c (·.light s)) :=
  .modChannel s c fun x => by constructor <;> rfl

theorem State.darken_frame (s : State) (c : ChannelNo) : ActFrame s (s.modChannel c (·.darken s)) :=
  .modChannel s c fun x => by constructor <;> rfl

theorem State.redrive_frame (s : State) (c : ChannelNo) : ActFrame s (s.redrive c) := by
  unfold State.redrive
  dsimp only
  repeat' split
  all_goals first
    | exact .refl s
    | exact (s.light_frame c).trans (State.endTest_frame _)
    | exact s.light_frame c
    | exact s.darken_frame c

theorem State.beginTest_frame (s : State) (c : ChannelNo) (rest : List ChannelNo) : ActFrame s (s.beginTest c rest) := by
  have h : ActFrame s (s.modChannel c fun x => { x with drive := .test, darkCurrent := none }) :=
    .modChannel s c fun x => by constructor <;> rfl
  exact h.trans { ActFrame.refl _ with }

theorem State.takeTest_frame (s : State) : ∀ cs, ActFrame s (s.takeTest cs)
  | [] => { ActFrame.refl s with }
  | c :: rest => by
    unfold State.takeTest
    split
    · exact s.takeTest_frame rest
    · exact s.beginTest_frame c rest

theorem State.nextTest_frame (s : State) : ActFrame s s.nextTest := by
  unfold State.nextTest
  split
  · exact s.takeTest_frame _
  · exact .refl s

theorem State.lampStage_frame (s : State) : ActFrame s s.lampStage :=
  (s.setAspects_frame.trans (.foldl State.redrive_frame _ _)).trans (State.nextTest_frame _)

theorem reaction_frame {s t : State} (h : reaction s = some t) : ActFrame s t := by
  rcases reaction_cases h with h | h | h | h | h | h | h | h
  · exact closureReaction_frame h
  · exact lanesReaction_frame h
  · exact deckReaction_frame h
  · exact groupsReaction_frame h
  · exact haltReaction_frame h
  · exact openingReaction_frame h
  · exact pairReaction_frame h
  · exact grantReaction_frame h

theorem settle_frame (n : Nat) (s : State) : ActFrame s (settle n s) :=
  settle_rule (P := ActFrame s) (fun _ _ h hr => h.trans (reaction_frame hr)) n s (.refl s)

/-- The rest of an act keeps the frame. -/
theorem State.finish_frame (s : State) : ActFrame s s.finish :=
  ((settle_frame _ s).trans (.closeAct _)).trans (State.lampStage_frame _)

end Sys2Proof.Machine
end

