-- ==== Sys2Proof/Laws/LampOnly.lean ====
section
/-! SUPPORT. What the lamp unit's part of an act leaves of the other blocks: all of them. -/

namespace Sys2Proof.Machine

/-- Only the lamp unit differs. -/
structure LampOnly (s t : State) : Prop where
  pending : t.pending = s.pending
  alive : t.alive = s.alive
  clock : t.clock = s.clock
  link : t.link = s.link
  site : t.site = s.site
  book : t.book = s.book
  beam : t.beam = s.beam
  road : t.road = s.road
  detectors : t.detectors = s.detectors
  motion : t.motion = s.motion
  wind : t.wind = s.wind
  window : t.window = s.window
  nvmSerial : t.nvmSerial = s.nvmSerial

theorem LampOnly.refl (s : State) : LampOnly s s := by constructor <;> rfl

theorem LampOnly.trans {s t u : State} (a : LampOnly s t) (b : LampOnly t u) : LampOnly s u := by
  cases a; cases b; constructor <;> simp_all

theorem LampOnly.foldl {α : Type} {f : State → α → State} (hf : ∀ s a, LampOnly s (f s a)) (l : List α) (s : State) :
    LampOnly s (l.foldl f s) :=
  foldl_rule (P := LampOnly s) (fun t a h => h.trans (hf t a)) l s (.refl s)

/-- The whole state, but for the lamp unit. -/
theorem LampOnly.eq {s t : State} (h : LampOnly s t) : { t with lamps := s.lamps } = s := by
  cases s; cases t; cases h; simp_all

theorem LampOnly.modChannel (s : State) (c : ChannelNo) (f : Channel → Channel) : LampOnly s (s.modChannel c f) := by
  constructor <;> rfl

theorem State.endTest_lamp (s : State) : LampOnly s s.endTest := { LampOnly.refl s with }

theorem State.setProving_lamp (s : State) (cs : List ChannelNo) : LampOnly s (s.setProving cs) :=
  { LampOnly.refl s with }

theorem State.setAspects_lamp (s : State) : LampOnly s s.setAspects := { LampOnly.refl s with }

theorem State.light_lamp (s : State) (c : ChannelNo) : LampOnly s (s.modChannel c (·.light s)) :=
  .modChannel s c _

theorem State.darken_lamp (s : State) (c : ChannelNo) : LampOnly s (s.modChannel c (·.darken s)) :=
  .modChannel s c _

theorem State.redrive_lamp (s : State) (c : ChannelNo) : LampOnly s (s.redrive c) := by
  unfold State.redrive
  dsimp only
  repeat' split
  all_goals first
    | exact .refl s
    | exact (s.light_lamp c).trans (State.endTest_lamp _)
    | exact s.light_lamp c
    | exact s.darken_lamp c

theorem State.beginTest_lamp (s : State) (c : ChannelNo) (rest : List ChannelNo) : LampOnly s (s.beginTest c rest) := by
  have h : LampOnly s (s.modChannel c fun x => { x with drive := .test, darkCurrent := none }) :=
    .modChannel s c _
  exact h.trans { LampOnly.refl _ with }

theorem State.takeTest_lamp (s : State) : ∀ cs, LampOnly s (s.takeTest cs)
  | [] => { LampOnly.refl s with }
  | c :: rest => by
    unfold State.takeTest
    split
    · exact s.takeTest_lamp rest
    · exact s.beginTest_lamp c rest

theorem State.nextTest_lamp (s : State) : LampOnly s s.nextTest := by
  unfold State.nextTest
  split
  · exact s.takeTest_lamp _
  · exact .refl s

theorem State.lampStage_lamp (s : State) : LampOnly s s.lampStage :=
  (s.setAspects_lamp.trans (.foldl State.redrive_lamp _ _)).trans (State.nextTest_lamp _)

end Sys2Proof.Machine
end

