-- ==== Sys2Proof/Laws/RoadOnly.lean ====
section
/-! SUPPORT. What the road's operations and reactions leave of the other blocks: all of them, but for the requests of
the arms and the factors raised. -/

namespace Sys2Proof.Machine

/-- Only the road, the Start Window and the link differ. -/
structure RoadOnly (s t : State) : Prop where
  pending : t.pending = s.pending
  alive : t.alive = s.alive
  clock : t.clock = s.clock
  site : t.site = s.site
  book : t.book = s.book
  beam : t.beam = s.beam
  detectors : t.detectors = s.detectors
  lamps : t.lamps = s.lamps
  motion : t.motion = s.motion
  wind : t.wind = s.wind
  nvmSerial : t.nvmSerial = s.nvmSerial

theorem RoadOnly.refl (s : State) : RoadOnly s s := by constructor <;> rfl

theorem RoadOnly.trans {s t u : State} (a : RoadOnly s t) (b : RoadOnly t u) : RoadOnly s u := by
  cases a; cases b; constructor <;> simp_all

theorem RoadOnly.foldl {α : Type} {f : State → α → State} (hf : ∀ s a, RoadOnly s (f s a)) (l : List α) (s : State) :
    RoadOnly s (l.foldl f s) :=
  foldl_rule (P := RoadOnly s) (fun t a h => h.trans (hf t a)) l s (.refl s)

/-- The whole state, but for the road, the Start Window and the link. -/
theorem RoadOnly.eq {s t : State} (h : RoadOnly s t) :
    { t with road := s.road, window := s.window, link := s.link } = s := by
  cases s; cases t; cases h; simp_all

theorem RoadOnly.modLane (s : State) (l : LaneNo) (f : Lane → Lane) : RoadOnly s (s.modLane l f) := by
  constructor <;> rfl

theorem RoadOnly.modGroup (s : State) (g : GroupNo) (f : Group → Group) : RoadOnly s (s.modGroup g f) := by
  constructor <;> rfl

theorem RoadOnly.request (s : State) (r : Requester) : RoadOnly s (s.request r) := by constructor <;> rfl

theorem RoadOnly.withdraw (s : State) (r : Requester) : RoadOnly s (s.withdraw r) := by constructor <;> rfl

theorem RoadOnly.raise (s : State) (f : Factor) : RoadOnly s (s.raise f) := by constructor <;> rfl

theorem State.enterLane_road (s : State) (l : LaneNo) (st : LaneState) : RoadOnly s (s.modLane l (·.enter st)) :=
  .modLane s l _

theorem State.closeLane_road (s : State) (l : LaneNo) : RoadOnly s (s.modLane l Lane.closedOrHeld) :=
  .modLane s l _

theorem State.enterClearing_road (s : State) (l : LaneNo) : RoadOnly s (s.enterClearing l) :=
  .modLane s l _

theorem State.beginClosing_road (s : State) (l : LaneNo) : RoadOnly s (s.beginClosing l) := by
  unfold State.beginClosing
  dsimp only
  split
  · exact .modLane s l _
  · exact s.enterClearing_road l

theorem State.laneToFault_road (s : State) (l : LaneNo) (c : LaneFault) : RoadOnly s (s.laneToFault l c) :=
  .modLane s l _

theorem State.askArm_road (s : State) (g : GroupNo) (d : ArmStroke) : RoadOnly s (s.askArm g d) := by
  unfold State.askArm
  cases s.motion.estop <;> simp only [Bool.false_eq_true, ↓reduceIte]
  · exact (RoadOnly.modGroup s g _).trans (.request _ _)
  · exact .modGroup s g _

theorem State.unaskArm_road (s : State) (g : GroupNo) (st : GroupState) : RoadOnly s (s.unaskArm g st) :=
  (RoadOnly.withdraw s _).trans (.modGroup _ g _)

theorem State.laneAtDown_road (s : State) (l : LaneNo) : RoadOnly s (s.laneAtDown l) := by
  unfold State.laneAtDown
  split
  · split
    · exact s.closeLane_road l
    · exact s.enterLane_road l _
  · exact .refl s

theorem State.groupDown_road (s : State) (g : GroupNo) : RoadOnly s (s.groupDown g) :=
  (RoadOnly.modGroup s g _).trans (.foldl State.laneAtDown_road _ _)

theorem State.groupUp_road (s : State) (g : GroupNo) : RoadOnly s (s.groupUp g) :=
  (RoadOnly.modGroup s g _).trans <| .foldl (fun s l => by
    split
    · exact s.enterLane_road l _
    · exact .refl s) _ _

theorem State.laneInGroupFault_road (c : GroupFault) (s : State) (l : LaneNo) :
    RoadOnly s (s.laneInGroupFault c l) := by
  unfold State.laneInGroupFault
  split
  · exact .refl s
  · exact s.laneToFault_road l _

theorem State.groupToFault_road (s : State) (g : GroupNo) (c : GroupFault) : RoadOnly s (s.groupToFault g c) := by
  have h : RoadOnly s ((s.withdraw (groupRequester g)).modGroup g fun x => { x.settle .fault with cause := some c }) :=
    (RoadOnly.withdraw s _).trans (.modGroup _ g _)
  unfold State.groupToFault
  split
  · exact .refl s
  · dsimp only
    split
    · exact (h.trans (.foldl (State.laneInGroupFault_road c) _ _)).trans (.raise _ _)
    · exact h

theorem State.releasingRecalled_road (s : State) (l : LaneNo) : RoadOnly s (s.releasingRecalled l) := by
  unfold State.releasingRecalled
  split
  · exact .refl s
  · split
    · exact (s.unaskArm_road _ _).trans (State.closeLane_road _ _)
    · exact s.closeLane_road l
    · exact (RoadOnly.modGroup s _ _).trans (State.enterLane_road _ _ _)
    · exact s.enterLane_road l _
    · exact s.enterLane_road l _
    · exact s.enterLane_road l _
    · exact .refl s
    · exact .refl s
    · exact .refl s

theorem State.callRises_road (s : State) (l : LaneNo) : RoadOnly s (s.callRises l) := by
  unfold State.callRises
  split
  · exact s.releasingRecalled_road l
  · exact .refl s

theorem State.callFalls_road (s : State) (l : LaneNo) : RoadOnly s (s.callFalls l) := by
  unfold State.callFalls
  dsimp only
  repeat' split
  all_goals first
    | exact .refl s
    | exact s.enterLane_road l _
    | exact (s.unaskArm_road _ _).trans (State.enterLane_road _ _ _)

theorem State.setClosure_road (s : State) (b : Bool) : RoadOnly s (s.setClosure b) := by
  have h : RoadOnly s { s with road := { s.road with
      closureDemand := b
      deck := if b then s.road.deck else .stopped } } := { RoadOnly.refl s with }
  refine h.trans (.foldl (fun u l => ?_) _ _)
  repeat' split
  · exact u.callRises_road l
  · exact u.callFalls_road l
  · exact .refl u

/-! ### Reactions -/

theorem closureReaction_road {s t : State} (h : closureReaction s = some t) : RoadOnly s t := by
  unfold closureReaction at h
  split at h <;> cases h
  exact s.setClosure_road _

theorem laneReaction_road {s t : State} {l : LaneNo} (h : laneReaction s l = some t) : RoadOnly s t := by
  unfold laneReaction at h
  dsimp only at h
  repeat' split at h
  all_goals cases h
  all_goals first
    | exact s.beginClosing_road l
    | exact s.enterClearing_road l
    | exact s.closeLane_road l
    | exact s.enterLane_road l _

theorem lanesReaction_road {s t : State} (h : lanesReaction s = some t) : RoadOnly s t := by
  obtain ⟨l, h⟩ := lanesReaction_cases h
  exact laneReaction_road h

theorem deckReaction_road {s t : State} (h : deckReaction s = some t) : RoadOnly s t := by
  unfold deckReaction at h
  split at h <;> cases h
  exact { RoadOnly.refl s with }

theorem groupReaction_road {s t : State} {g : GroupNo} (h : groupReaction s g = some t) : RoadOnly s t := by
  have recalled (ls : List LaneNo) : RoadOnly s (ls.foldl
      (fun s l => if (s.lane l).state == .releasing then s.releasingRecalled l else s) s) :=
    .foldl (fun s l => by
      split
      · exact s.releasingRecalled_road l
      · exact .refl s) ls s
  unfold groupReaction at h
  dsimp only at h
  repeat' split at h
  all_goals cases h
  all_goals first
    | exact s.askArm_road g _
    | exact .foldl State.laneAtDown_road _ s
    | exact recalled _
    | exact .modGroup s g _

theorem groupsReaction_road {s t : State} (h : groupsReaction s = some t) : RoadOnly s t := by
  obtain ⟨g, h⟩ := groupsReaction_cases h
  exact groupReaction_road h

theorem State.grantArm_road (s : State) (g : GroupNo) : RoadOnly s (s.grantArm g) :=
  .modGroup s g _

end Sys2Proof.Machine
end

