-- ==== Sys2Proof/Laws/PairOk.lean ====
section
/-! SUPPORT. The pair record (R117): what the motion controller's operations make of it, and that the reactions of an
act keep it HALTED exactly with a halt cause and in FAULT exactly with a fault cause. -/

namespace Sys2Proof.Machine

/-- What every turn of a fold leaves, the fold leaves. -/
theorem foldl_keeps {α β : Type} {f : State → α → State} (g : State → β) (hf : ∀ s a, g (f s a) = g s) (l : List α)
    (s : State) : g (l.foldl f s) = g s := by
  induction l generalizing s with
  | nil => rfl
  | cons a l ih => exact (ih _).trans (hf s a)

/-! ### Operations that leave the pair record -/

@[simp] theorem State.stopDemands_pair (s : State) : s.stopDemands.motion.pair = s.motion.pair := rfl

@[simp] theorem State.setTravel_pair (s : State) (d : Option Travel) : (s.setTravel d).motion.pair = s.motion.pair := by
  cases d <;> rfl

@[simp] theorem State.askLock_pair (s : State) (k : LockId) (d : LockStroke) :
    (s.askLock k d).motion.pair = s.motion.pair := by
  unfold State.askLock
  dsimp only
  split <;> cases k <;> rfl

@[simp] theorem State.askPump_pair (s : State) (i : Side) : (s.askPump i).motion.pair = s.motion.pair := by
  unfold State.askPump
  dsimp only
  split <;> cases i <;> rfl

@[simp] theorem State.dropLock_pair (s : State) (k : LockId) : (s.dropLock k).motion.pair = s.motion.pair := by
  cases k <;> rfl

@[simp] theorem State.dropPump_pair (s : State) (i : Side) : (s.dropPump i).motion.pair = s.motion.pair := by
  cases i <;> rfl

@[simp] theorem State.dropLocks_pair (s : State) : s.dropLocks.motion.pair = s.motion.pair :=
  foldl_keeps (·.motion.pair) State.dropLock_pair _ s

@[simp] theorem State.dropPumps_pair (s : State) : s.dropPumps.motion.pair = s.motion.pair :=
  foldl_keeps (·.motion.pair) State.dropPump_pair _ s

@[simp] theorem State.pumpsOff_pair (s : State) : s.pumpsOff.motion.pair = s.motion.pair := rfl

@[simp] theorem State.holdLock_pair (s : State) (k : LockId) : (s.holdLock k).motion.pair = s.motion.pair := by
  unfold State.holdLock
  split
  · cases k <;> rfl
  · rfl

@[simp] theorem State.holdPump_pair (s : State) (i : Side) : (s.holdPump i).motion.pair = s.motion.pair := by
  unfold State.holdPump
  split
  · cases i <;> rfl
  · rfl

@[simp] theorem State.haltPumps_pair (s : State) (c : HaltCause) : (s.haltPumps c).motion.pair = s.motion.pair := by
  unfold State.haltPumps
  split <;> rfl

@[simp] theorem State.releaseLock_pair (s : State) (k : LockId) : (s.releaseLock k).motion.pair = s.motion.pair := by
  unfold State.releaseLock
  repeat' split
  · cases k <;> rfl
  · exact s.dropLock_pair k
  · rfl

@[simp] theorem State.releasePump_pair (s : State) (i : Side) : (s.releasePump i).motion.pair = s.motion.pair := by
  unfold State.releasePump
  repeat' split
  · cases i <;> rfl
  · exact s.dropPump_pair i
  · rfl

@[simp] theorem State.releaseHeld_pair (s : State) : s.releaseHeld.motion.pair = s.motion.pair :=
  (foldl_keeps (·.motion.pair) State.releasePump_pair _ _).trans (foldl_keeps (·.motion.pair) State.releaseLock_pair _ s)

@[simp] theorem State.grantLock_pair (s : State) (k : LockId) : (s.grantLock k).motion.pair = s.motion.pair := by
  cases k <;> rfl

/-! ### Operations that write it -/

/-- A state entered by an event keeps no state and no recovery step (R117). -/
@[simp] theorem State.enterPair_pair (s : State) (st : PairState) :
    (s.enterPair st).motion.pair = { s.motion.pair with state := st, interrupted := none, step := none } := by
  simp [State.enterPair]

@[simp] theorem State.enterLocking_pair (s : State) :
    s.enterLocking.motion.pair = { s.motion.pair with state := .locking, interrupted := none, step := none } := by
  simp [State.enterLocking]

/-- Every operation that takes a pair out of HALTED and FAULT with no cause left leaves a sound record. -/
theorem Pair.ok_of {p : Pair} (hh : p.halts = HaltSet.empty) (hc : p.cause = none) (h1 : p.state ≠ .halted)
    (h2 : p.state ≠ .fault) (h3 : p.interrupted ≠ some .halted) (h4 : p.interrupted ≠ some .fault) : p.ok := by
  simp [Pair.ok, hh, hc, h1, h2, h3, h4]

/-- A pair in neither HALTED nor FAULT has no cause. -/
theorem Pair.ok.noHalts {p : Pair} (h : p.ok) (h1 : p.state ≠ .halted) : p.halts = HaltSet.empty :=
  Decidable.byContradiction fun hn => h1 (h.1.1 hn)

theorem Pair.ok.noCause {p : Pair} (h : p.ok) (h2 : p.state ≠ .fault) : p.cause = none := by
  cases hc : p.cause with
  | none => rfl
  | some c => exact absurd (h.2.1.1 (by simp [hc])) h2

/-- A halt cause put into a set leaves it with one. -/
theorem HaltSet.add_ne (h : HaltSet) (c : HaltCause) : h.add c ≠ HaltSet.empty := by
  cases c <;> simp [HaltSet.add, HaltSet.empty]

/-- A state entered from neither HALTED nor FAULT. -/
theorem State.enterPair_ok {s : State} {st : PairState} (h : s.motion.pair.ok) (h1 : s.motion.pair.state ≠ .halted)
    (h2 : s.motion.pair.state ≠ .fault) (h3 : st ≠ .halted) (h4 : st ≠ .fault) : (s.enterPair st).motion.pair.ok := by
  rw [State.enterPair_pair]
  exact Pair.ok_of (h.noHalts h1) (h.noCause h2) h3 h4 (by simp) (by simp)

theorem State.enterLocking_ok {s : State} (h : s.motion.pair.ok) (h1 : s.motion.pair.state ≠ .halted)
    (h2 : s.motion.pair.state ≠ .fault) : s.enterLocking.motion.pair.ok := by
  rw [State.enterLocking_pair]
  exact Pair.ok_of (h.noHalts h1) (h.noCause h2) (by simp) (by simp) (by simp) (by simp)

/-- R126. -/
theorem State.enterFault_ok {s : State} (c : PairFault) (h : s.motion.pair.ok) : (s.enterFault c).motion.pair.ok := by
  unfold State.enterFault
  split
  · exact h
  · simp [Pair.ok]

/-- The state that a pair's rules are those of is HALTED or FAULT only where the pair's own state is. -/
theorem Pair.ok.effective {p : Pair} (h : p.ok) :
    (p.effective = .halted → p.state = .halted) ∧ (p.effective = .fault → p.state = .fault) := by
  obtain ⟨-, -, h3, h4⟩ := h
  unfold Pair.effective
  split
  · cases hi : p.interrupted with
    | none => simp_all
    | some x => rw [hi] at h3 h4; constructor <;> (rintro rfl; simp_all)
  · cases hi : p.interrupted with
    | none => simp_all
    | some x => rw [hi] at h3 h4; constructor <;> (rintro rfl; simp_all)
  · exact ⟨id, id⟩

/-- A halt (R127, R128). -/
theorem State.halt_ok {s : State} {c : HaltCause} (h : s.motion.pair.ok) (hc : s.haltCondition c = true) :
    (s.halt c).motion.pair.ok := by
  have hf : s.motion.pair.effective ≠ .fault := by
    intro e
    cases c <;> simp [State.haltCondition, e] at hc
  unfold State.halt
  dsimp only
  split
  · rename_i hs
    simp only [State.raise_motion, State.modPair_pair, State.haltPumps_pair]
    have hs : s.motion.pair.state = .halted := by simpa using hs
    obtain ⟨h1, h2, h3, h4⟩ := h
    exact ⟨by simp [hs, HaltSet.add_ne], by simpa using h2, h3, h4⟩
  · rename_i hs
    have hs : s.motion.pair.state ≠ .halted := by simpa using hs
    have e : ((bothSides.foldl State.holdPump (allLocks.foldl State.holdLock s)).haltPumps c).stopDemands.motion.pair =
        s.motion.pair := by
      rw [State.stopDemands_pair, State.haltPumps_pair]
      exact (foldl_keeps (·.motion.pair) State.holdPump_pair _ _).trans
        (foldl_keeps (·.motion.pair) State.holdLock_pair _ s)
    simp only [State.raise_motion, State.modPair_pair, e]
    have hn : s.motion.pair.state ≠ .fault := by
      intro hn
      apply hf
      simp [Pair.effective, hn]
    refine ⟨by simp [HaltSet.add_ne], by simp [h.noCause hn], ?_, ?_⟩
    · intro hi
      exact hs (h.effective.1 (by simpa using hi))
    · intro hi
      exact hf (by simpa using hi)

/-! ### Resumption (R130) -/

/-- Resumption into a state that needs the pumps. -/
theorem State.resumeMoving_ok {s : State} {st : PairState} (hh : s.motion.pair.halts = HaltSet.empty)
    (hc : s.motion.pair.cause = none) (h1 : st ≠ .halted) (h2 : st ≠ .fault) : (s.resumeMoving st).motion.pair.ok := by
  unfold State.resumeMoving
  split
  · rw [State.releaseHeld_pair, State.enterPair_pair]
    exact Pair.ok_of hh hc h1 h2 (by simp) (by simp)
  · rw [State.releaseHeld_pair, State.modPair_pair, State.enterPair_pair]
    exact Pair.ok_of hh hc (by simp) (by simp) (by simpa using h1) (by simpa using h2)

/-- R130. -/
theorem State.resumePair_ok {s : State} (hc : s.motion.pair.cause = none) (h3 : s.motion.pair.interrupted ≠ some .halted)
    (h4 : s.motion.pair.interrupted ≠ some .fault) : s.resumePair.motion.pair.ok := by
  unfold State.resumePair
  dsimp only
  have hm : (s.modPair fun q => { q with halts := HaltSet.empty, channelTimer := none }).motion.pair.halts =
      HaltSet.empty := rfl
  have hd : (s.modPair fun q => { q with halts := HaltSet.empty, channelTimer := none }).motion.pair.cause = none := hc
  generalize (s.modPair fun q => { q with halts := HaltSet.empty, channelTimer := none }) = t at hm hd
  split
  case h_1 | h_2 =>
    split
    · rw [State.enterLocking_pair]
      exact Pair.ok_of hm hd (by simp) (by simp) (by simp) (by simp)
    · rw [State.releaseHeld_pair, State.enterPair_pair]
      exact Pair.ok_of hm hd (by dsimp only; split <;> simp) (by dsimp only; split <;> simp) (by simp) (by simp)
  case h_3 => exact State.resumeMoving_ok hm hd (by split <;> simp) (by split <;> simp)
  case h_4 => exact State.resumeMoving_ok hm hd (by split <;> simp) (by split <;> simp)
  case h_5 => exact State.resumeMoving_ok hm hd (by simp) (by simp)
  case h_6 => exact State.resumeMoving_ok hm hd (by simp) (by simp)
  case h_7 =>
    rw [State.releaseHeld_pair, State.modPair_pair, State.enterPair_pair]
    exact Pair.ok_of hm hd (by simp) (by simp) (by simp) (by simp)
  case h_8 =>
    rw [State.releaseHeld_pair, State.enterPair_pair]
    refine Pair.ok_of hm hd ?_ ?_ (by simp) (by simp)
    · cases hi : s.motion.pair.interrupted <;> simp_all
    · cases hi : s.motion.pair.interrupted <;> simp_all

/-! ### Reactions -/

theorem State.askFirst_pair {s t : State} {ks : List LockId} {d : LockStroke} {g : LockState}
    (h : s.askFirst ks d g = some t) : t.motion.pair = s.motion.pair := by
  simp only [State.askFirst, Option.map_eq_some_iff] at h
  obtain ⟨k, -, rfl⟩ := h
  exact s.askLock_pair k d

theorem State.askFirstPump_pair {s t : State} {is : List Side} (h : s.askFirstPump is = some t) :
    t.motion.pair = s.motion.pair := by
  simp only [State.askFirstPump, Option.map_eq_some_iff] at h
  obtain ⟨i, -, rfl⟩ := h
  exact s.askPump_pair i

theorem unlockingReaction_ok {s t : State} (h : unlockingReaction s = some t) (ok : s.motion.pair.ok)
    (h1 : s.motion.pair.state ≠ .halted) (h2 : s.motion.pair.state ≠ .fault) : t.motion.pair.ok := by
  unfold unlockingReaction at h
  dsimp only at h
  repeat' split at h
  all_goals first
    | cases h; done
    | (rw [State.askFirst_pair h]; exact ok)
    | skip
  · cases h; rw [State.dropLocks_pair]; exact ok
  · cases h; exact State.enterLocking_ok ok h1 h2
  · cases h; exact State.enterPair_ok ok h1 h2 (by simp) (by simp)

theorem startingReaction_ok {s t : State} (h : startingReaction s = some t) (ok : s.motion.pair.ok)
    (h1 : s.motion.pair.state ≠ .halted) (h2 : s.motion.pair.state ≠ .fault) : t.motion.pair.ok := by
  unfold startingReaction at h
  repeat' split at h
  · cases h; exact State.enterLocking_ok ok h1 h2
  · cases h; exact State.enterPair_ok ok h1 h2 (by simp) (by simp)
  · rw [State.askFirstPump_pair h]; exact ok

theorem keptReaction_ok {s t : State} {kept : PairState} (h : keptReaction s kept = some t) (ok : s.motion.pair.ok)
    (hs : s.motion.pair.state = .starting) (hk : s.motion.pair.interrupted = some kept) : t.motion.pair.ok := by
  have h1 : s.motion.pair.state ≠ .halted := by simp [hs]
  have h2 : s.motion.pair.state ≠ .fault := by simp [hs]
  have h3 := ok.2.2.1
  have h4 := ok.2.2.2
  unfold keptReaction at h
  repeat' split at h
  · cases h
    exact Pair.ok_of (ok.noHalts h1) (ok.noCause h2) h1 h2 (by simp) (by simp)
  · cases h
    exact State.enterPair_ok ok h1 h2 (by rintro rfl; exact h3 hk) (by rintro rfl; exact h4 hk)
  · rw [State.askFirstPump_pair h]; exact ok

theorem State.enterLocked_ok {s : State} (h : s.motion.pair.ok) (h1 : s.motion.pair.state ≠ .halted)
    (h2 : s.motion.pair.state ≠ .fault) : s.enterLocked.motion.pair.ok := by
  unfold State.enterLocked
  rw [State.modPair_pair, State.enterPair_pair]
  exact Pair.ok_of (h.noHalts h1) (h.noCause h2) (by simp) (by simp) (by simp) (by simp)

theorem lockingReaction_ok {s t : State} (h : lockingReaction s = some t) (ok : s.motion.pair.ok)
    (h1 : s.motion.pair.state ≠ .halted) (h2 : s.motion.pair.state ≠ .fault) : t.motion.pair.ok := by
  unfold lockingReaction at h
  dsimp only at h
  repeat' split at h
  · cases h; exact State.enterLocked_ok ok h1 h2
  · rw [State.askFirst_pair h]; exact ok
  · rw [State.askFirst_pair h]; exact ok

theorem recoveringReaction_ok {s t : State} (h : recoveringReaction s = some t) (ok : s.motion.pair.ok)
    (h1 : s.motion.pair.state ≠ .halted) (h2 : s.motion.pair.state ≠ .fault) : t.motion.pair.ok := by
  unfold recoveringReaction at h
  dsimp only at h
  split at h
  · cases h
    exact State.enterLocking_ok ok h1 h2
  · split at h
    · split at h
      · cases h
        exact ok
      · split at h <;> (rw [State.askFirst_pair h]; exact ok)
    · split at h
      · cases h
        exact ok
      · rw [State.askFirstPump_pair h]
        exact ok
    · cases h

theorem haltedReaction_ok {s t : State} (h : haltedReaction s = some t) (ok : s.motion.pair.ok)
    (hs : s.motion.pair.state = .halted) : t.motion.pair.ok := by
  unfold haltedReaction at h
  dsimp only at h
  split at h
  · cases h
    split
    · exact State.resumePair_ok (ok.noCause (by simp [hs])) ok.2.2.1 ok.2.2.2
    · rename_i hn
      exact ⟨by simpa [hs] using hn, ok.2.1, ok.2.2⟩
  · cases h

theorem pairReaction_ok {s t : State} (h : pairReaction s = some t) (ok : s.motion.pair.ok) : t.motion.pair.ok := by
  unfold pairReaction at h
  split at h <;> rename_i hs
  · split at h <;> cases h
    have hu : s.unlock.motion.pair =
        { s.motion.pair with state := .unlocking, interrupted := none, step := none, target := s.publishedTarget } := by
      simp only [State.unlock, State.modPair_pair, State.enterPair_pair]
    rw [hu]
    exact Pair.ok_of (ok.noHalts (by simp [hs])) (ok.noCause (by simp [hs])) (by simp) (by simp) (by simp) (by simp)
  · exact unlockingReaction_ok h ok (by simp [hs]) (by simp [hs])
  · exact startingReaction_ok h ok (by simp [hs]) (by simp [hs])
  · split at h
    · exact keptReaction_ok h ok hs ‹_›
    · exact startingReaction_ok h ok (by simp [hs]) (by simp [hs])
  · split at h <;> cases h
    exact State.enterPair_ok ok (by simp [hs]) (by simp [hs]) (by simp) (by simp)
  · split at h <;> cases h
    exact State.enterPair_ok ok (by simp [hs]) (by simp [hs]) (by simp) (by simp)
  · split at h <;> cases h
    exact State.enterLocking_ok ok (by simp [hs]) (by simp [hs])
  · split at h <;> cases h
    exact State.enterLocking_ok ok (by simp [hs]) (by simp [hs])
  · exact lockingReaction_ok h ok (by simp [hs]) (by simp [hs])
  · exact recoveringReaction_ok h ok (by simp [hs]) (by simp [hs])
  · exact haltedReaction_ok h ok hs
  · cases h

theorem State.grantPump_ok {s : State} (i : Side) (ok : s.motion.pair.ok) : (s.grantPump i).motion.pair.ok := by
  unfold State.grantPump
  dsimp only
  split
  · rename_i hs
    have hs : s.motion.pair.state = .free := by simpa using hs
    rw [State.enterPair_pair, State.modPump_motion_pair]
    exact Pair.ok_of (ok.noHalts (by simp [hs])) (ok.noCause (by simp [hs])) (by simp) (by simp) (by simp) (by simp)
  · rw [State.modPump_motion_pair]
    exact ok

theorem State.begin_ok {s : State} (r : Requester) (ok : s.motion.pair.ok) : (s.begin r).motion.pair.ok := by
  unfold State.begin
  split
  · rw [State.grantLock_pair]; exact ok
  · rw [State.grantLock_pair]; exact ok
  · rw [State.grantLock_pair]; exact ok
  · exact State.grantPump_ok _ ok
  · exact State.grantPump_ok _ ok
  · split
    · rw [(State.grantArm_road s _).motion]
      exact ok
    · exact ok

theorem reaction_ok {s t : State} (h : reaction s = some t) (ok : s.motion.pair.ok) : t.motion.pair.ok := by
  rcases reaction_cases h with h | h | h | h | h | h | h | h
  · rw [(closureReaction_road h).motion]; exact ok
  · rw [(lanesReaction_road h).motion]; exact ok
  · rw [(deckReaction_road h).motion]; exact ok
  · rw [(groupsReaction_road h).motion]; exact ok
  · obtain ⟨c, hc, -, rfl⟩ := haltReaction_cases h
    exact State.halt_ok ok hc
  · rw [(openingReaction_book h).motion]; exact ok
  · exact pairReaction_ok h ok
  · unfold grantReaction at h
    split at h
    · cases h
    · split at h <;> cases h
      exact State.begin_ok _ ok

/-- The rest of an act keeps the pair record. -/
theorem State.finish_ok {s : State} (ok : s.motion.pair.ok) : s.finish.motion.pair.ok := by
  rw [State.finish, (State.lampStage_lamp _).motion, State.closeAct_motion]
  exact settle_rule (P := fun s => s.motion.pair.ok) (fun _ _ ok hr => reaction_ok hr ok) _ s ok

end Sys2Proof.Machine
end

