-- ==== Sys2Proof/Tests/Slice0.lean ====
section
/-! SUPPORT. Small tests of single steps, with the values of the spec's worked cases, and a witness for each statement
that has hypotheses: a concrete state and operands that meet them. -/

namespace Sys2Proof.Tests

open Sys2Proof Sys2Proof.Machine

set_option Elab.async false

/-! ### Small states -/

/-- The state that an outcome answers, or the state after reset. -/
def after (r : Host.Outcome State Fault Refusal) : State :=
  match r with
  | .next t => t
  | _ => State.reset

/-- A passage as in the worked sequence of Section 1.13. -/
def passage (tag : Tag) (slot : Fin 16) (status : PassageStatus) : Passage where
  tag := tag
  slot := slot
  direction := .seaward
  cls := .routine
  angle := 6000
  allowance := 300
  autoRetire := false
  status := status
  bookedAt := 100
  readySince := if status = .booked then none else some 130
  openingNumber := if status = .booked ∨ status = .ready then none else some 41
  proceedAt := if status = .proceed ∨ status = .passing then some 5120 else none
  overdue := false
  clearedAt := none

def opening (state : OpeningState) (members : List Tag) : Opening where
  number := 41
  state := state
  batch := 4
  target := 7200
  members := members
  lastCall := false
  joinDeadline := none
  serving := none
  previous := none
  directionTimer := none
  beamPassage := none
  confirmTimer := none
  forced := false

def put (p : Passage) (s : State) : State :=
  { s with book := { s.book with slots := s.book.slots.set p.slot.val (some p) p.slot.isLt } }

/-- One passage 210 in slot 0, on the waiting list. -/
def waits (status : PassageStatus) : State :=
  put (passage 210 0 status) { State.reset with book := { State.reset.book with waiting := [210] } }

/-- One member 210 in slot 0 of an opening. -/
def serves (status : PassageStatus) (o : OpeningState) : State :=
  put (passage 210 0 status) { State.reset with book := { State.reset.book with opening := some (opening o [210]) } }

def setPair (st : PairState) (s : State) : State := s.modPair fun p => { p with state := st }

/-- Lane 0 present: ROAD, NORTH, ENTRY, group 0, input 0. -/
def road (st : LaneState) : State :=
  State.reset.modLane 0 fun x => { x with present := true, group := some 0, state := st }

/-- Lane 6 present: the TRAM lane without a group of the worked sequence of Section 4.9. -/
def tram (st : LaneState) : State :=
  State.reset.modLane 6 fun x => { x with present := true, kind := .tram, input1 := 12, input2 := 13, state := st }

def holds (h : Hold) (s : State) : State := s.modLane 0 fun x => { x with hold := h }

def arms (st : GroupState) (s : State) : State := s.modGroup 0 fun x => { x with state := st }

/-- Channel 26 is the main string of GREEN-LOWER of SH-SEA, as in the worked sequence of Section 5.10. -/
def lamp (f : Channel → Channel) : State :=
  State.reset.modChannel 26 fun x => f { x with assignment := some { head := 4, element := 3, standby := false } }

/-- A wind reading valid at 118. -/
def windy (s : State) : State := { s with wind := { s.wind with gates := [104, 112, 118, 109] } }

/-- Both leaves away from the seat. -/
def away (s : State) : State :=
  (s.modLeaf .n fun x => { x with seat := false }).modLeaf .s fun x => { x with seat := false }

/-- The raising of Section 7.6. -/
def raising : State :=
  let s := setPair .raising (away (windy State.reset))
  { s with motion := { s.motion with
    pair := { s.motion.pair with target := some 7200 }
    leafN := { s.motion.leafN with count := 24650 }
    leafS := { s.motion.leafS with count := 23440 }
    rampBase := 940 } }

/-- A store in progress. -/
def storing : State :=
  { State.reset with site := { State.reset.site with
    key := true, store := some { copy := State.reset.site.working, dirty := false, due := 200 } } }

/-- A part without power. -/
def off : State := { State.reset with alive := false }

/-! ### Well-formed commands (R194, third test) -/

theorem test_ready_flag_is_0_or_1 : (Instr.bookPassage 1 0 0 6000 2 600 0).wellFormed = false := by decide +kernel
theorem test_autoRetire_flag_is_0_or_1 : (Instr.bookPassage 1 0 0 6000 0 600 2).wellFormed = false := by decide +kernel
theorem test_masked_ready_is_tested : (Instr.amendPassage 1 0x08 0 0 0 2 0 0).wellFormed = false := by decide +kernel
theorem test_masked_autoRetire_is_tested : (Instr.amendPassage 1 0x20 0 0 0 0 0 2).wellFormed = false := by decide +kernel
theorem test_unmasked_fields_are_not_read : (Instr.amendPassage 1 0x00 9 9 0 2 0 2).wellFormed = true := by decide +kernel
theorem test_hold_option_is_0_or_1 : (Instr.holdLane 0 2).wellFormed = false := by decide +kernel
theorem test_floor_is_at_most_3 : (Instr.setAttentionFloor 4).wellFormed = false := by decide +kernel

/-! ### Frames (R190 to R195; the check values are R192's) -/

theorem test_check_of_nothing : crc [] = 0xFFFF := by decide +kernel
theorem test_check_of_00_00 : crc [0x00, 0x00] = 0x1D0F := by decide +kernel
theorem test_check_of_01_00 : crc [0x01, 0x00] = 0x2E3E := by decide +kernel
theorem test_check_of_123456789 : crc [0x31, 0x32, 0x33, 0x34, 0x35, 0x36, 0x37, 0x38, 0x39] = 0x29B1 := by decide +kernel
theorem test_read_status_frame : judge [0x01, 0x00, 0x2E, 0x3E] = .good 0x01 [] := by decide +kernel
theorem test_spoilt_check : judge [0x01, 0x00, 0x2E, 0x3F] = .frameError := by decide +kernel
theorem test_bytes_after_the_check : judge [0x00, 0x00, 0x1D, 0x0F, 0x00, 0x00] = .good 0x00 [] := by decide +kernel
theorem test_short_frame : judge [0x01, 0x00] = .frameError := by decide +kernel
theorem test_decode_book_passage :
    decodeCommand 0x10 [0x00, 0xD2, 0x00, 0x00, 0x17, 0x70, 0x00, 0x02, 0x58, 0x01] =
      .command (.bookPassage 210 0 0 6000 0 600 1) := by decide +kernel
theorem test_decode_hold_lane : decodeCommand 0x31 [0x03, 0x01] = .command (.holdLane 3 1) := by decide +kernel
theorem test_decode_write_site_entry :
    decodeCommand 0x61 [0x0F, 0x00, 0x96] = .command (.writeSiteEntry 15 150) := by decide +kernel
theorem test_decode_ack_attention : decodeCommand 0x71 [0x80, 0x00] = .command (.ackAttention 0x8000) := by decide +kernel
theorem test_decode_short_body : decodeCommand 0x30 [] = .notPermitted := by decide +kernel
theorem test_decode_unknown_code : decodeCommand 0x73 [] = .unknownCommand := by decide +kernel

/-! ### Single steps -/

theorem test_step_takes_the_front :
    (after (step (State.reset.withPending [.ackAttention 0, .callOpening]))).pending = [.callOpening] := by decide +kernel
theorem test_idle_takes_the_motion_period :
    { State.reset with clock := { State.reset.clock with now := 20 } }.dueNow = some .motionPeriod := by decide +kernel
theorem test_frame_error_raises_factor_15 :
    (after (exec (.commandFrame [0x01, 0x00, 0x2E, 0x3F]) State.reset)).attnLine = true := by decide +kernel
theorem test_sdo_sends_the_reset_response :
    (after (exec (.commandFrame [0x01, 0x00, 0x2E, 0x3F]) State.reset)).link.sent = [0x00, 0x00, 0x1D, 0x0F] := by decide +kernel
theorem test_status_response_is_18_bytes :
    (after (exec .readStatus State.reset)).link.response.length = 18 := by decide +kernel
/-- Section 1.13, step 2: a TOW is kept at ANGLE_FULL, the allowance at 1800. -/
theorem test_tow_is_clamped :
    ((after (exec (.bookPassage 344 1 2 5000 1 2400 0) State.reset)).passage 344).map (fun p => (p.angle, p.allowance)) =
      some (8200, 1800) := by decide +kernel
/-- Section 1.13, step 3: a PRIORITY passage goes to the head of the list. -/
theorem test_priority_stands_first :
    (after (exec (.bookPassage 17 0 1 4000 0 300 0) (waits .booked))).book.waiting = [17, 210] := by decide +kernel
theorem test_mark_passing_needs_proceed :
    (after (exec (.markPassing 210) (waits .booked))).link.response = frame 0x0A [] := by decide +kernel
/-- R18: at 5,420 the difference of 300 is not above the allowance; at 5,421 it is. -/
theorem test_overdue_at_301_seconds :
    let s := serves .passing .shipping
    let now (n : Seconds) : State := { s with clock := { s.clock with uptime := n } }
    ((now 5420).testOverdue 210).link.factors = 0 ∧ ((now 5421).testOverdue 210).link.factors = 0x0004 := by decide +kernel
/-- A hold and nothing called: the lane begins to close in the act (R63). -/
theorem test_hold_begins_a_closure :
    ((after (exec (.holdLane 0 0) (road .isOpen))).lane 0).state = .warning := by decide +kernel
/-- Section 4.9: an entry pulse in CLOSED is a count fault. -/
theorem test_tram_runs_the_stop :
    let s := (tram .closed).modDetector 12 fun d => { d with pulse := .timing, pulseTimer := some 40 }
    let x := (after (exec (.entryPulse 6) s)).lane 6
    (x.state, x.cause, x.count, x.timer) = (.fault, some .tramCount, 1, none) := by decide +kernel
/-- Section 5.10: the first failure is recorded and counted once. -/
theorem test_lamp_failure_is_counted :
    let t := after (exec (.noCurrentExpiry 26) (lamp fun x => { x with drive := .lit, noCurrent := some 300 }))
    ((t.channel 26).state, (t.channel 26).failures, t.link.factors.getLsbD 7) = (.failedOpen, 1, true) := by decide +kernel
/-- R116: the count saturates at 0. -/
theorem test_encoder_saturates :
    ((after (exec (.encoderStep .n .lower) State.reset)).leaf .n).count = 0 := by decide +kernel
/-- Section 7.6, angle stage. -/
theorem test_angles_of_the_worked_case :
    let p := (raising.angleStage).motion.period
    (p.angleN, p.angleS, p.skew) = (some 4211, some 4004, some 207) := by decide +kernel
/-- Section 7.6, demand stage. -/
theorem test_demands_of_the_worked_case :
    let t := raising.angleStage.demandStage
    (t.motion.period.lead, t.motion.period.correction, t.motion.leafN.demand, t.motion.leafS.demand, t.motion.rampBase) =
      (some .n, 414, 406, 820, 820) := by decide +kernel
/-- Section 7.9: the edges of the limits. -/
theorem test_limits_at_their_edges :
    (distanceLimit 80 300 1500 1800, distanceLimit 80 300 1500 1799, distanceLimit 80 300 1500 301) = (1000, 999, 80) := by
  decide +kernel
/-- Section 7.9: overtravel is above 8,300. -/
theorem test_overtravel_edge : (angleOf 48588 48000 8200, angleOf 48589 48000 8200) = (8300, 8301) := by decide +kernel
/-- Section 8.9: the reading is the largest of the last four gates. -/
theorem test_gate_of_250_pulses :
    let s := windy State.reset
    let t := (after (exec .gateExpiry { s with wind := { s.wind with counter := 250 } })).wind
    (t.gates, t.reading, t.valid) = ([112, 118, 109, 144], 144, true) := by decide +kernel
theorem test_gate_is_at_most_600 : (gateValue 1037 37, gateValue 1038 37) = (599, 600) := by decide +kernel
/-- R162: a LIFT request stands ahead of the BARRIER requests. -/
theorem test_lift_stands_ahead : joinQueue [] [1, 2] 8 = [8, 1, 2] := by decide +kernel
/-- R162: the requests of one act join in requester number order, behind those that stood before it. -/
theorem test_requests_of_one_act :
    (joinQueue [10] [10] 9, joinQueue [5] [2, 5] 3, joinQueue [] [10] 9) = ([9, 10], [2, 3, 5], [10, 9]) := by decide +kernel
/-- Section 4.2: a presence that ends on a tenth of a second has that tenth counted (R78). -/
theorem test_the_last_tenth_is_counted :
    let s := ((road .isOpen).modDetector 0 fun d => { d with presence := true, stability := some 10 }).modLane 0 fun x =>
      { x with durationTimer := some 10 }
    { s with clock := { s.clock with now := 10 } }.dueNow = some (.presenceDurationAdvance 0) := by decide +kernel
/-- R116, R149: a seat switch that turns on in RAISING leaves the leaf's demand. -/
theorem test_seat_in_raising_keeps_the_demand :
    let s := (setPair .raising (away State.reset)).modLeaf .n fun x => { x with demand := 300 }
    ((s.seatLeaf .n).leaf .n).demand = 300 := by decide +kernel
/-- R75, R88: lane 6 has count 0 where its second input changes, and keeps its count where its approach alone does. -/
theorem test_count_of_a_changed_lane :
    let s := (tram .isOpen).modLane 6 fun x => { x with count := 2 }
    (((s.freshLane 6 0x8FCD 0x8FCE).lane 6).count, ((s.freshLane 6 0x8FCD 0xAFCD).lane 6).count) = (0, 2) := by
  decide +kernel
/-- Section 10.8: WIND_DERATE 150 would break relation 2. -/
theorem test_relation_2 :
    (after (exec (.writeSiteEntry 15 150) State.reset)).link.response = frame 0x0E [] := by decide +kernel
/-- Section 10.8: CREEP_SPEED 250 is kept as 200. -/
theorem test_creep_speed_is_clamped :
    (after (exec (.writeSiteEntry 5 250) State.reset)).link.response = frame 0x01 [0x05, 0x00, 0xC8] := by decide +kernel
theorem test_store_needs_the_key :
    (after (exec .storeSiteTable State.reset)).link.response = frame 0x0D [] := by decide +kernel

/-! ### Witnesses: states and operands that meet a statement's hypotheses, for each of its clauses -/

theorem witness_StepRunsTheFrontCommandElseTimePasses :
    State.reset.pending = [] ∧ State.reset.alive = true ∧ State.reset.dueNow = none ∧
    { State.reset with clock := { State.reset.clock with now := 20 } }.dueNow = some .motionPeriod ∧
    off.pending = [] ∧ off.alive = false := by decide +kernel

theorem witness_EveryCommandCompletesAndWithoutPowerNothingActs :
    Completes .noOperation State.reset ∧ off.alive = false ∧ Instr.noOperation ≠ .powerOn ∧
    exec .noOperation off = .next off ∧ isPinChange .noOperation = false := ⟨⟨_, rfl⟩, rfl, by decide, rfl, rfl⟩

theorem witness_EveryResetLeavesItsValuesAndLoadsTheTable : State.reset.alive = true ∧ State.reset.atRest = true := by decide +kernel

/-- What the switches may show at a reset: a leaf off its seat, and a group with both end switches off. -/
theorem witness_EveryResetLeavesItsValuesAndLoadsTheTable_switches :
    let g0 := State.reset.modGroup 0 fun x => { x with downSwitch := false, upSwitch := false }
    (State.reset.leaf .n).seat = true ∧ ((away State.reset).leaf .n).seat = false ∧
    (∀ k, (State.reset.lock k).drivenSwitch = true ∧ (State.reset.lock k).withdrawnSwitch = false) ∧
    (g0.group 0).downSwitch = false ∧ (g0.group 0).upSwitch = false ∧ (g0.group 1).upSwitch = true ∧
    (away State.reset).alive = true ∧ (g0).alive = true := by
  refine ⟨rfl, rfl, fun k => ?_, by decide +kernel, by decide +kernel, by decide +kernel, rfl, by decide +kernel⟩
  cases k <;> decide +kernel

/-- R136: a leaf found off its seat puts the pair in FAULT with POSITION_UNKNOWN. -/
theorem test_reset_off_the_seat :
    let p := (away State.reset).motion.found.pair
    (p.state, p.cause) = (.fault, some .positionUnknown) := by decide +kernel

/-- The check carried on over the values of some entries (R172, R192). -/
def carry (r : BitVec 16) (l : List SiteWord) : BitVec 16 := (l.flatMap bytesOf16).foldl crcByte r

theorem carry_append (r : BitVec 16) (a b : List SiteWord) : carry r (a ++ b) = carry (carry r a) b := by
  simp [carry]

theorem test_carry_motion_1 : carry 0xFFFF [48000, 48000, 8200, 4500, 10, 80, 300, 1500, 32] = 0x00B6 := by decide +kernel
theorem test_carry_motion_2 : carry 0x00B6 [150, 400, 10, 8, 3000, 37, 100, 140, 160] = 0x483D := by decide +kernel
theorem test_carry_lanes : carry 0x483D (List.replicate 12 0x0F00) = 0x3967 := by decide +kernel
theorem test_carry_road : carry 0x3967 [4, 8, 20, 12, 60, 20] = 0x6160 := by decide +kernel
theorem test_carry_channels_1 : carry 0x6160 (List.replicate 12 0xF000) = 0xBEFE := by decide +kernel
theorem test_carry_channels_2 : carry 0xBEFE (List.replicate 12 0xF000) = 0x15ED := by decide +kernel
theorem test_carry_channels_3 : carry 0x15ED (List.replicate 12 0xF000) = 0xD9C6 := by decide +kernel
theorem test_carry_channels_4 : carry 0xD9C6 (List.replicate 12 0xF000) = 0x498E := by decide +kernel
theorem test_carry_openings : carry 0x498E [50, 2, 4, 900, 300, 120, 60, 10, 8, 4] = 0xD43F := by decide +kernel
theorem test_carry_levels : carry 0xD43F [1, 1, 2, 3, 2, 3, 3, 2, 2, 3, 3, 2, 3, 1, 3, 2] = 0x81AB := by decide +kernel

/-- The factory values of R172 to R175, in entry order. -/
theorem test_factory_values : SiteTable.factoryReset.toList =
    [48000, 48000, 8200, 4500, 10, 80, 300, 1500, 32] ++ [150, 400, 10, 8, 3000, 37, 100, 140, 160] ++
    List.replicate 12 0x0F00 ++ [4, 8, 20, 12, 60, 20] ++ List.replicate 12 0xF000 ++ List.replicate 12 0xF000 ++
    List.replicate 12 0xF000 ++ List.replicate 12 0xF000 ++ [50, 2, 4, 900, 300, 120, 60, 10, 8, 4] ++
    [1, 1, 2, 3, 2, 3, 3, 2, 2, 3, 3, 2, 3, 1, 3, 2] := by decide +kernel

/-- The stored check of State.reset agrees with the factory values (R172, R192). -/
theorem test_factory_check : tableCheck SiteTable.factoryReset = 0x81AB := by
  show carry 0xFFFF SiteTable.factoryReset.toList = 0x81AB
  simp only [test_factory_values, carry_append, test_carry_motion_1, test_carry_motion_2, test_carry_lanes,
    test_carry_road, test_carry_channels_1, test_carry_channels_2, test_carry_channels_3, test_carry_channels_4,
    test_carry_openings, test_carry_levels]

theorem witness_EveryResetLeavesItsValuesAndLoadsTheTable_stored :
    let bad : State := { State.reset with site := { State.reset.site with storedCheck := 0 } }
    State.reset.alive = true ∧ State.reset.site.store = none ∧
    tableCheck State.reset.site.stored = State.reset.site.storedCheck ∧
    bad.alive = true ∧ bad.site.store = none ∧ tableCheck bad.site.stored ≠ bad.site.storedCheck := by
  refine ⟨rfl, rfl, test_factory_check, rfl, rfl, ?_⟩
  show tableCheck SiteTable.factoryReset ≠ 0
  rw [test_factory_check]
  decide

theorem witness_ResetAndPowerLossDuringAStore :
    storing.alive = true ∧ storing.site.store.isSome = true ∧ State.reset.alive = true ∧
    State.reset.site.store = none := by decide +kernel

theorem witness_TransactionsAreJudged :
    State.reset.alive = true ∧ ([0x00] : List Byte) ≠ [] ∧ judge [0x00] = .frameError := by decide +kernel

theorem witness_DecodeOfEncodeIsTheCommand :
    (Instr.holdLane 11 1).codeAndBody = some (0x31, [11, 1]) ∧ (Instr.holdLane 11 1).wellFormed = true := by
  decide +kernel

theorem witness_FramesAreTestedInOrderAndActAsTheirCommands :
    State.reset.alive = true ∧ Instr.readStatus.codeAndBody ≠ none := by decide +kernel

theorem witness_FramesAreTestedInOrderAndActAsTheirCommands_order :
    (∀ i : Instr, ∀ b, i.codeAndBody ≠ some (0x73, b)) ∧
    Instr.readStatus.codeAndBody = some (0x01, []) ∧ ([0x00] : List Byte).length ≠ ([] : List Byte).length ∧
    (Instr.setAttentionFloor 4).codeAndBody = some (0x72, [0x04]) ∧ (Instr.setAttentionFloor 4).wellFormed = false ∧
    State.reset.alive = true ∧ decodeCommand 0x73 [] = .unknownCommand ∧
    decodeCommand 0x72 [0x04] = .notPermitted := by
  refine ⟨?_, by decide, by decide, by decide, by decide, rfl, by decide +kernel, by decide +kernel⟩
  intro i b h
  have other : i.codeAndBody.all (fun x => x.1 != 0x73) = true := by cases i <;> rfl
  rw [h] at other
  cases other

theorem witness_ReadCommandsAnswerTheirRecords :
    (waits .ready).alive = true ∧ (waits .ready).passage 210 = some (passage 210 0 .ready) ∧
    (serves .called .shipping).book.opening = some (opening .shipping [210]) ∧
    (0x0B : Byte).toNat = (11 : LaneNo).val ∧ ((road .isOpen).lane 0).present = true ∧
    ((road .isOpen).lane 0).kind ≠ .tram ∧ ((road .isOpen).lane 0).group = some 0 ∧ ((tram .isOpen).lane 6).kind = .tram ∧
    ((tram .isOpen).lane 6).group = none ∧ (State.reset.lane 11).present = false ∧ (0x0D : Byte).toNat = (13 : HeadNo).val ∧
    3 < elementCount 5 ∧ (0x2F : Byte).toNat = (47 : ChannelNo).val ∧ State.reset.lamps.underTest ≠ some 47 ∧
    47 ∉ State.reset.lamps.proving ∧ (State.reset.setProving [46, 47]).lamps.proving = [46] ++ 47 :: [] ∧
    (47 : ChannelNo) ∉ ([46] : List ChannelNo) ∧ (0x6D : Byte).toNat = (109 : EntryNo).val ∧
    entryRange (State.reset.cfg Entry.angleFull) 5 = some (20, 200) ∧
    entryRange (State.reset.cfg Entry.angleFull) 18 = none := by decide +kernel

theorem witness_NamingWhatDoesNotExistIsRefused :
    State.reset.alive = true ∧ State.reset.passage 210 = none ∧ (waits .booked).passage 210 ≠ none ∧
    (0x03 : Byte).getLsbD 0 = true ∧ 1 < (0x02 : Byte).toNat ∧ (0x03 : Byte).getLsbD 1 = true ∧ 2 < (0x03 : Byte).toNat ∧
    (0x03 : Byte).getLsbD 3 = false ∧ (0x03 : Byte).getLsbD 5 = false ∧ (0x08 : Byte).getLsbD 3 = true ∧
    11 < (0x0C : Byte).toNat ∧ (0x0B : Byte).toNat = (11 : LaneNo).val ∧ (State.reset.lane 11).present = false ∧
    (0x01 : Byte).toNat ≤ 1 ∧ 13 < (0x0E : Byte).toNat ∧ 47 < (0x30 : Byte).toNat ∧ 109 < (0x6E : Byte).toNat := by
  decide +kernel

theorem witness_ReadAttentionGivesTheSets : State.reset.alive = true := rfl

theorem witness_AckAttentionClearsTheFactorsNamed : State.reset.alive = true := rfl

theorem witness_SetAttentionFloorTakesTheFloor :
    State.reset.alive = true ∧ (0x03 : Byte).toNat ≤ 3 ∧ 3 < (0x04 : Byte).toNat := by decide +kernel

theorem witness_FactorsStayPendingUntilAcknowledged :
    let s := State.reset.raise .eStop
    Completes .noOperation s ∧ mayReset .noOperation = false ∧
    (∀ set, Instr.noOperation = .ackAttention set → set.getLsbD 12 = false) ∧
    s.link.factors.getLsbD 12 = true := by
  refine ⟨⟨_, rfl⟩, rfl, ?_, by decide +kernel⟩
  intro set h
  cases h

/-- Every slot taken. -/
def full : State :=
  (List.finRange 16).foldl (fun s i => put (passage (BitVec.ofNat 16 (i.val + 1)) i .booked) s) State.reset

theorem witness_BookPassageCreatesTheRecord :
    (waits .booked).alive = true ∧ (0x01 : Byte).toNat ≤ 1 ∧ (17 : Tag) ≠ 0 ∧ directionNamed 0x01 = some .landward ∧
    classNamed 0x01 = some .priority ∧ classNamed 0x02 = some .tow ∧ (waits .booked).passage 17 = none ∧
    17 ∉ (waits .booked).book.waiting ∧ (waits .booked).book.slots[(1 : Fin 16)] = none ∧
    (∀ j : Fin 16, j < 1 → (waits .booked).book.slots[j] ≠ none) ∧ (waits .booked).book.opening = none ∧
    1 < (0x02 : Byte).toNat ∧ 2 < (0x03 : Byte).toNat ∧
    (waits .booked).passage 210 = some (passage 210 0 .booked) ∧ full.alive = true ∧ full.passage 17 = none ∧
    ∀ i : Fin 16, full.book.slots[i] ≠ none := by decide +kernel

theorem witness_ReadyPassageJoinsAnOpeningInShipping :
    let s := serves .called .shipping
    s.alive = true ∧ directionNamed 0x00 = some .seaward ∧ classNamed 0x00 = some .routine ∧ s.passage 17 = none ∧
    17 ∉ s.book.waiting ∧ s.book.slots[(1 : Fin 16)] = none ∧ (∀ j : Fin 16, j < 1 → s.book.slots[j] ≠ none) ∧
    s.book.opening = some (opening .shipping [210]) ∧ (opening .shipping [210]).members.length < 4 ∧
    s.keptAngle .routine 7200 ≤ (opening .shipping [210]).target := by decide +kernel

/-- A booked passage 17 in slot 1, behind the member 210 of an opening in SHIPPING. -/
def joins : State :=
  (put (passage 17 1 .booked) (serves .called .shipping)).setWaiting [17]

theorem witness_ReadyPassageJoinsAnOpeningInShipping_amended :
    joins.alive = true ∧ joins.passage 17 = some (passage 17 1 .booked) ∧ (passage 17 1 .booked).status = .booked ∧
    joins.book.opening = some (opening .shipping [210]) ∧ (opening .shipping [210]).members.length < 4 ∧
    Instr.wellFormed (.amendPassage 17 0x08 0 0 0 1 0 0) = true ∧
    ((amendment 0x08 0 0 0 1 0 0).map fun a => (a.ready, joins.amendedAngle a (passage 17 1 .booked))) =
      some (some true, 6000) ∧
    joins.keptAngle .routine 6000 = 6000 ∧ joins.keptAngle .routine 0 ≠ 0 ∧ max 60 (min 30 1800) ≠ 30 ∧
    ((amendment 0x0C 0 0 0 1 0 0).map fun a => (a.ready, a.angle)) = some (some true, some 0) := by decide +kernel

/-- R35: the amended passage joins at the tail and leaves the waiting list. -/
theorem test_amended_passage_joins :
    let t := after (exec (.amendPassage 17 0x08 0 0 0 1 0 0) joins)
    (t.members, t.book.waiting) = ([210, 17], []) := by decide +kernel

theorem witness_AmendWritesTheMaskedFieldsOfAWaitingPassage :
    (waits .booked).alive = true ∧ (waits .booked).passage 210 = some (passage 210 0 .booked) ∧
    (waits .ready).passage 210 = some (passage 210 0 .ready) ∧ (waits .ready).book.opening = none ∧
    directionNamed 0x01 = some .landward ∧ classNamed 0x02 = some .tow ∧ classNamed 0x01 = some .priority ∧
    (passage 210 0 .booked).cls ≠ .priority ∧ (0x01 : Byte).toNat ≤ 1 := by decide +kernel

theorem witness_AmendTakesAMemberOutOfItsOpening :
    let s := serves .called .raising
    s.alive = true ∧ s.passage 210 = some (passage 210 0 .called) ∧
    s.book.opening = some (opening .raising [210]) ∧ (opening .raising [210]).state ≠ .shipping ∧
    (serves .called .shipping).book.opening = some (opening .shipping [210]) ∧
    ([] : List Tag).length < (opening .shipping [210]).batch ∧
    Instr.wellFormed (.amendPassage 210 0x01 0x01 0 0 0 0 0) = true ∧
    amendment 0x01 0x01 0 0 0 0 0 =
      some { direction := some .landward, cls := none, angle := none, ready := none, allowance := none,
             autoRetire := none } ∧
    (passage 210 0 .called).direction ≠ .landward ∧
    s.amendedAngle { direction := none, cls := none, angle := some 8200, ready := none, allowance := none,
                     autoRetire := none } (passage 210 0 .called) = 8200 ∧
    (amendment 0x10 0 0 0 0 600 0).isSome = true := by decide +kernel

/-- R6, R13: taken out in RAISING, the tag stands on the waiting list; in SHIPPING it joins again (R35). -/
theorem test_taken_out_of_its_opening :
    let t (o : OpeningState) := after (exec (.amendPassage 210 0x01 0x01 0 0 0 0 0) (serves .called o))
    ((t .raising).book.waiting, (t .shipping).members) = ([210], [210]) := by decide +kernel

theorem witness_AmendOfAPassageUnderWay :
    (serves .proceed .shipping).alive = true ∧
    (serves .proceed .shipping).passage 210 = some (passage 210 0 .proceed) ∧
    (serves .cleared .shipping).passage 210 = some (passage 210 0 .cleared) ∧
    Instr.wellFormed (.amendPassage 210 0x20 0 0 0 0 0 1) = true ∧
    amendment 0x20 0 0 0 0 0 1 =
      some { direction := none, cls := none, angle := none, ready := none, allowance := none,
             autoRetire := some true } ∧
    (amendment 0x10 0 0 0 0 200 0).map (·.allowance) = some (some 200) ∧
    (amendment 0x08 0 0 0 1 0 0).map (·.ready) = some (some true) := by decide +kernel

/-- An overdue flag that is clear or set, an allowance kept or brought to 60, auto-retire clear, and an empty mask. -/
theorem witness_AmendOfAPassageUnderWay_fields :
    (serves .passing .shipping).passage 210 = some (passage 210 0 .passing) ∧
    (passage 210 0 .passing).proceedAt = some 5120 ∧ (passage 210 0 .passing).overdue = false ∧
    max 60 (min 200 1800) = 200 ∧ max 60 (min 30 1800) ≠ 30 ∧ 200 < ((5321 : Seconds) - 5120).toNat ∧
    Instr.wellFormed (.amendPassage 210 0x10 0 0 0 0 30 0) = true ∧
    (amendment 0x10 0 0 0 0 30 0).map (·.allowance) = some (some 30) ∧
    amendment 0x20 0 0 0 0 0 0 =
      some { direction := none, cls := none, angle := none, ready := none, allowance := none,
             autoRetire := some false } ∧
    amendment 0x00 0 0 0 0 0 0 =
      some { direction := none, cls := none, angle := none, ready := none, allowance := none, autoRetire := none } := by
  decide +kernel

/-- R14, R18: 201 s after proceed-at an allowance of 200 s makes the passage overdue and raises PASSAGE_OVERDUE. -/
theorem test_amended_allowance_is_tested :
    let s := serves .passing .shipping
    let at201 : State := { s with clock := { s.clock with uptime := 5321 } }
    let t := after (exec (.amendPassage 210 0x10 0 0 0 0 200 0) at201)
    ((t.passage 210).map (·.overdue), t.link.factors.getLsbD 2) = (some true, true) := by decide +kernel

theorem witness_MarkAndRetireCommandsMoveThePassage :
    (serves .proceed .shipping).alive = true ∧
    (serves .proceed .shipping).passage 210 = some (passage 210 0 .proceed) ∧
    (serves .passing .shipping).passage 210 = some (passage 210 0 .passing) := by decide +kernel

theorem witness_MarkAndRetireCommandsMoveThePassage_retire :
    (waits .ready).alive = true ∧ (waits .ready).passage 210 = some (passage 210 0 .ready) ∧
    (serves .passing .shipping).passage 210 = some (passage 210 0 .passing) ∧
    (serves .proceed .shipping).passage 210 = some (passage 210 0 .proceed) ∧
    (serves .called .raising).passage 210 = some (passage 210 0 .called) := by decide +kernel

theorem witness_UptimeAndBookTimersRunOut :
    let s := serves .passing .shipping
    let t : State := { s with clock := { s.clock with uptime := 5421 } }
    t.alive = true ∧ t.passage 210 = some (passage 210 0 .passing) ∧ t.isLate (passage 210 0 .passing) = true ∧
    (passage 210 0 .passing).overdue = false ∧
    { s with clock := { s.clock with uptime := 5420 } }.isLate (passage 210 0 .passing) = false := by decide +kernel

/-- Two READY passages wait, of both directions. -/
def twoWait : State :=
  put { passage 344 1 .ready with direction := .landward }
    (put (passage 210 0 .ready) { State.reset with book := { State.reset.book with waiting := [210, 344] } })

theorem witness_ACallFormsTheOpening :
    twoWait.alive = true ∧ twoWait.book.opening = none ∧ twoWait.site.invalid = false ∧
    twoWait.motion.pair.state = .locked ∧
    (twoWait.book.waiting.filter fun t => twoWait.statusOf t == some .ready) ≠ [] ∧
    (windy twoWait).mayCall = true := by decide +kernel

theorem witness_LastCallIsSetAndRefusalsKeepTheirOrder :
    State.reset.alive = true ∧ (serves .called .called).book.opening ≠ none ∧ State.reset.book.opening = none ∧
    State.reset.readyTags = [] ∧ (serves .called .lowering).book.opening = some (opening .lowering [210]) ∧
    (serves .passing .shipping).book.opening = some (opening .shipping [210]) ∧
    (serves .passing .shipping).statusOf 210 = some .passing ∧
    (0 - 0xFFFFFFFF : BitVec 32).toNat < 2 ^ 31 ∧
    { opening .shipping [210] with joinDeadline := some 0xFFFFFFFF }.lastCall = false := by decide +kernel

theorem witness_AbortReturnsTheMembers :
    (serves .called .called).alive = true ∧
    (serves .called .called).book.opening = some (opening .called [210]) ∧
    (serves .proceed .shipping).book.opening = some (opening .shipping [210]) ∧
    (opening .shipping [210]).members = [210] ∧ (serves .proceed .shipping).statusOf 210 = some .proceed := by
  decide +kernel

/-- R42: an ABORT that returns the member in PROCEED leaves no direction in service. -/
theorem test_abort_ends_the_service :
    let s := (serves .proceed .shipping).modOpening fun o => { o with serving := some .seaward }
    ((s.membersReturn.book.opening.map (·.serving)), (s.membersReturn.statusOf 210)) = (some none, some .ready) := by
  decide +kernel

/-- Both greens of SH-SEA are assigned, and the pair is OPEN. -/
def proceeds : State :=
  let s := setPair .isOpen (serves .called .shipping)
  (s.modChannel 24 fun x => { x with assignment := some { head := 4, element := 2, standby := false } }).modChannel 26
    fun x => { x with assignment := some { head := 4, element := 3, standby := false } }

theorem witness_ProceedIsGivenToTheHeadMember :
    proceeds.alive = true ∧ proceeds.book.opening = some (opening .shipping [210]) ∧
    proceeds.passage 210 = some (passage 210 0 .called) ∧ proceeds.motion.pair.state = .isOpen ∧
    proceeds.motion.estop = false ∧ proceeds.greensProven .seaward = true ∧
    (opening .shipping [210]).directionTimer = none ∧
    (serves .called .shipping).motion.pair.state ≠ .isOpen := by decide +kernel

theorem witness_UptimeAndBookTimersRunOut_timers :
    let s := (serves .passing .shipping).modOpening fun o =>
      { o with directionTimer := some 60000, beamPassage := some 210, confirmTimer := some 60000 }
    let t : State := { s with book := { s.book with roadTimer := some 60000 } }
    t.alive = true ∧ t.book.roadTimer = some 60000 ∧ t.book.opening.bind (·.directionTimer) = some 60000 ∧
    t.book.opening.bind (·.confirmTimer) = some 60000 ∧ t.book.opening.bind (·.beamPassage) = some 210 ∧
    t.passage 210 = some (passage 210 0 .passing) := by decide +kernel

theorem witness_SpanBeamIsFilteredAndActsOnItsTurns :
    let broken (s : State) : State := { s with beam := { raw := true, filtered := false, timer := some 500 } }
    let clear : State := { State.reset with beam := { raw := false, filtered := true, timer := some 500 } }
    (broken State.reset).alive = true ∧ (broken State.reset).beam.timer = some 500 ∧
    (broken (serves .proceed .shipping)).memberIn .proceed = some 210 ∧
    (broken (serves .passing .shipping)).memberIn .proceed = none ∧
    (broken (serves .passing .shipping)).memberIn .passing = some 210 ∧
    (broken State.reset).memberIn .passing = none ∧ clear.alive = true ∧ clear.beam.timer = some 500 := by
  decide +kernel

theorem witness_HoldsCloseTheGroupAndReleasesGiveItBack :
    (∀ st, ((road st).alive = true ∧ ((road st).lane 0).present = true ∧ ((road st).lane 0).group = some 0 ∧
      ((road st).lane 0).state = st ∧ ((road st).lane 0).hold = .free)) ∧ (0x00 : Byte).toNat = (0 : LaneNo).val ∧
    (∀ st, ((arms st (road .releasing)).lane 0).state = .releasing ∧ ((arms st (road .releasing)).group 0).state = st) ∧
    ((tram .releasing).lane 6).present = true ∧ ((tram .releasing).lane 6).group = none ∧
    ((tram .releasing).lane 6).state = .releasing ∧ (0x01 : Byte).toNat ≤ 1 := by
  refine ⟨fun st => ?_, by decide +kernel, fun st => ?_, by decide +kernel, by decide +kernel, by decide +kernel,
    by decide +kernel⟩ <;> cases st <;> decide +kernel

/-- R61, R64: HOLD LANE on a lane in RELEASING whose group is DOWN holds the lane at once; a lane whose group is
GOING_DOWN secures again. -/
theorem test_hold_turns_a_release_back :
    let t (st : GroupState) := (after (exec (.holdLane 0 0) (arms st (road .releasing)))).lane 0
    ((t .down).state, (t .goingDown).state) = (.held, .securing) := by decide +kernel

theorem witness_HoldsCloseTheGroupAndReleasesGiveItBack_release :
    (0x00 : Byte).toNat = (0 : LaneNo).val ∧
    (∀ st, let s := holds .hold (road st)
      s.alive = true ∧ (s.lane 0).present = true ∧ (s.lane 0).hold = .hold ∧ (s.lane 0).group = some 0 ∧
      (s.lane 0).state = st ∧ (s.lane 0).keptClosed = false ∧ s.road.closureDemand = false) ∧
    (∀ st, let s := arms st (holds .hold (road .securing))
      (s.lane 0).state = .securing ∧ (s.lane 0).hold = .hold ∧ (s.group 0).state = st) ∧
    (let s := holds .hold (road .held)
     let t : State := { s with road := { s.road with closureDemand := true } }
     t.road.closureDemand = true ∧ (t.lane 0).state = .held ∧ (t.lane 0).hold = .hold) ∧
    ((holds .holdDown (road .held)).lane 0).hold = .holdDown ∧ ((road .closed).lane 0).hold = .free ∧
    ((road .closed).modLane 0 fun x => { x with keptClosed := true }).road.closureDemand = false ∧
    (((road .closed).modLane 0 fun x => { x with keptClosed := true }).lane 0).keptClosed = true ∧
    State.reset.motion.pair.state = .locked ∧ (setPair .raising State.reset).motion.pair.state ≠ .locked := by
  refine ⟨by decide +kernel, fun st => ?_, fun st => ?_, by decide +kernel, by decide +kernel,
    by decide +kernel, rfl, by decide +kernel, rfl, by decide +kernel⟩ <;> cases st <;> decide +kernel

/-- R60, R64: with no closure demand RELEASE HOLD gives up the securing of a lane, by the state of its group. -/
theorem test_release_hold_of_a_securing_lane :
    let t (st : GroupState) := (after (exec (.releaseHold 0) (arms st (holds .hold (road .securing))))).lane 0
    ((t .awaitDown).state, (t .obstructed).state) = (.isOpen, .releasing) := by decide +kernel

/-- Lane 0 and its group in FAULT, with the switches as given. -/
def jammed (down up : Bool) : State :=
  (arms .fault (road .fault)).modGroup 0 fun x => { x with downSwitch := down, upSwitch := up }

theorem witness_ClearLaneFaultReReadsTheSwitches :
    (∀ down up, (jammed down up).alive = true ∧ ((jammed down up).lane 0).present = true ∧
      ((jammed down up).lane 0).group = some 0 ∧ ((jammed down up).lane 0).state = .fault ∧
      ((jammed down up).lane 0).cause ≠ some .tramCount ∧ ((jammed down up).group 0).downSwitch = down ∧
      ((jammed down up).group 0).upSwitch = up) ∧ (0x00 : Byte).toNat = (0 : LaneNo).val ∧
    ((tram .fault).lane 6).present = true ∧ ((tram .fault).lane 6).group = none ∧
    ((road .isOpen).lane 0).state ≠ .fault ∧ ((road .isOpen).group 0).state ≠ .fault ∧
    (((road .fault).modLane 0 fun x => { x with cause := some .tramCount }).lane 0).cause = some .tramCount := by
  decide +kernel

/-- R72: with the down switch alone on, and nothing called, the lane is CLOSED and kept closed. -/
theorem test_clear_lane_fault_with_the_arm_down :
    let x := (after (exec (.clearLaneFault 0) (jammed true false))).lane 0
    (x.state, x.keptClosed) = (.closed, true) := by decide +kernel

theorem witness_AckTramCountSetsTheCountToZero :
    let s := (tram .fault).modLane 6 fun x => { x with cause := some .tramCount, count := 7 }
    s.alive = true ∧ (0x06 : Byte).toNat = (6 : LaneNo).val ∧ (s.lane 6).present = true ∧ (s.lane 6).kind = .tram ∧
    (s.lane 6).state = .fault ∧ (s.lane 6).cause = some .tramCount ∧ (s.lane 6).group = none ∧
    (0x00 : Byte).toNat = (0 : LaneNo).val ∧ ((road .isOpen).lane 0).present = true ∧
    ((road .isOpen).lane 0).kind ≠ .tram ∧
    ∀ st, ((arms st (s.modLane 6 fun x => { x with group := some 0 })).group 0).state = st := by
  refine ⟨rfl, rfl, by decide +kernel, by decide +kernel, by decide +kernel, by decide +kernel, by decide +kernel, rfl,
    by decide +kernel, by decide +kernel, fun st => ?_⟩
  cases st <;> decide +kernel

theorem witness_LaneTimersRunOut :
    let amber := (road .warning).modLane 0 fun x => { x with subPhase := some .amber, timer := some 4000 }
    let red := (road .warning).modLane 0 fun x => { x with subPhase := some .red, timer := some 8000 }
    let commit := (tram .clearing).modLane 6 fun x => { x with timer := some 20000 }
    let deck : State := { State.reset with road := { State.reset.road with deck := .running 20000 } }
    deck.alive = true ∧ deck.road.deck = .running 20000 ∧ (amber.lane 0).present = true ∧
    (amber.lane 0).timer = some 4000 ∧ (amber.lane 0).state = .warning ∧ (amber.lane 0).subPhase = some .amber ∧
    (red.lane 0).timer = some 8000 ∧ (red.lane 0).subPhase = some .red ∧ (commit.lane 6).present = true ∧
    (commit.lane 6).timer = some 20000 ∧ (commit.lane 6).kind = .tram ∧ (commit.lane 6).state = .clearing := by
  decide +kernel

theorem witness_EndSwitchesMoveTheGroup :
    let down := arms .goingDown (road .securing)
    let up := arms .goingUp (road .releasing)
    State.reset.alive = true ∧ (State.reset.group 0).upSwitch ≠ false ∧
    (∀ m : LaneNo, ¬((State.reset.lane m).present = true ∧ (State.reset.lane m).group = some 0)) ∧
    (down.lane 0).present = true ∧ (down.lane 0).group = some 0 ∧ (down.group 0).state = .goingDown ∧
    (down.group 0).downSwitch ≠ true ∧ (up.group 0).state = .goingUp ∧
    ((road .isOpen).group 0).state = .up ∧ ((road .isOpen).group 0).upSwitch = true := by decide +kernel

theorem witness_StrokeTimeoutAndObstruction :
    let moving := (arms .goingDown (road .securing)).modGroup 0 fun x => { x with strokeTimer := some 12000 }
    let stopped := (arms .obstructed (road .securing)).modGroup 0 fun x => { x with clearTimer := some 3000 }
    moving.alive = true ∧ (moving.group 0).strokeTimer = some 12000 ∧ (moving.group 0).state = .goingDown ∧
    (moving.group 0).obstruction ≠ true ∧ (stopped.group 0).state = .obstructed ∧
    (stopped.group 0).clearTimer = some 3000 ∧ stopped.motion.estop = false ∧ (State.reset.group 0).state ≠ .obstructed := by
  decide +kernel

theorem witness_DetectorsAreFilteredAndPresenceTimed :
    let presence := (road .isOpen).modDetector 0 fun d => { d with level := true, stability := some 200 }
    let counted := (tram .isOpen).modDetector 12 fun d => { d with pulse := .counted, pulseTimer := some 40 }
    let timed (n : Nat) := (road .isOpen).modLane 0 fun x => { x with duration := n, durationTimer := some 100 }
    State.reset.alive = true ∧ (State.reset.detector 0).level ≠ true ∧ State.reset.inputRole 0 = none ∧
    presence.inputRole 0 = some (0, .presence) ∧ (tram .isOpen).inputRole 12 = some (6, .entry) ∧
    (tram .isOpen).inputRole 13 = some (6, .exit) ∧ (presence.detector 0).stability = some 200 ∧
    (presence.detector 0).level ≠ (presence.detector 0).presence ∧ (counted.detector 12).pulse = .counted ∧
    (counted.detector 12).pulseTimer = some 40 ∧ ((timed 599).lane 0).durationTimer = some 100 ∧
    10 * (timed 599).cfg Entry.stallTime ≤ min 65535 (599 + 1) ∧
    ¬10 * (timed 598).cfg Entry.stallTime ≤ min 65535 (598 + 1) := by decide +kernel

theorem witness_PulsesCountTheSection :
    let s (n : Nat) (i : InputNo) := ((tram .isOpen).modLane 6 fun x => { x with count := n }).modDetector i fun d =>
      { d with pulse := .timing, pulseTimer := some 40 }
    (s 7 12).alive = true ∧ ((s 7 12).lane 6).present = true ∧ ((s 7 12).lane 6).kind = .tram ∧
    ((s 7 12).lane 6).count = 7 ∧ ((s 7 12).detector ((s 7 12).lane 6).input1).pulse = .timing ∧
    ((s 7 12).detector ((s 7 12).lane 6).input1).pulseTimer = some 40 ∧ ((s 0 13).lane 6).count = 0 ∧
    ((s 0 13).detector ((s 0 13).lane 6).input2).pulse = .timing ∧
    ((s 0 13).detector ((s 0 13).lane 6).input2).pulseTimer = some 40 := by decide +kernel

theorem witness_LampTimersProvingAndClearing :
    let stuck := lamp fun x => { x with state := .failedStuck }
    State.reset.alive = true ∧ State.reset.lamps.flashTimer = some 600 ∧ State.reset.lamps.periodicTimer = some 60000 ∧
    (0x0D : Byte).toNat = (13 : HeadNo).val ∧ (State.reset.channel 26).sense ≠ true ∧
    (0x1A : Byte).toNat = (26 : ChannelNo).val ∧ (stuck.channel 26).assignment ≠ none ∧
    (stuck.channel 26).state = .failedStuck ∧ (stuck.channel 26).sense = false ∧
    (State.reset.channel 26).state ≠ .failedStuck := by decide +kernel

theorem witness_LampFailuresAreFound :
    let lit := lamp fun x => { x with drive := .lit, noCurrent := some 300 }
    let dark := lamp fun x => { x with sense := true, darkCurrent := some 300 }
    let s := lamp fun x => { x with drive := .test }
    let test : State := { s with lamps := { s.lamps with underTest := some 26, testTimer := some 50 } }
    lit.alive = true ∧ (lit.channel 26).noCurrent = some 300 ∧ (dark.channel 26).darkCurrent = some 300 ∧
    test.lamps.underTest = some 26 ∧ test.lamps.testTimer = some 50 ∧ (test.channel 26).sense = false ∧
    (test.channel 26).state = .good ∧ test.lamps.firstFailure = none := by decide +kernel

theorem witness_LeafSwitchesReferTheCount :
    let s (n : Nat) := (away State.reset).modLeaf .n fun x => { x with count := n }
    State.reset.alive = true ∧ (State.reset.leaf .n).seat = true ∧ (State.reset.leaf .n).fullOpen = false ∧
    ((s 480).leaf .n).seat = false ∧ ((s 480).leaf .n).count ≤ 48000 / 100 ∧ 48000 / 100 < ((s 481).leaf .n).count ∧
    ((s 47519).leaf .n).count < 48000 - 48000 / 100 ∧ State.reset.motion.pair.effective = .locked ∧
    (setPair .raising State.reset).motion.pair.effective ≠ .locked := by decide +kernel

theorem witness_EnteringFaultStopsThePair :
    (setPair .fault State.reset).motion.pair.state = .fault ∧ raising.motion.pair.state ≠ .fault := by decide +kernel

theorem witness_LocksAndPumpsEndTheirStarts :
    let lock := State.reset.modLock .bolt fun x =>
      { x with state := .stroking, stroke := some .withdraw, drivenSwitch := false, timer := some 10000 }
    let pump := State.reset.modPump .n fun x => { x with state := .starting, timer := some 8000 }
    lock.alive = true ∧ (lock.lock .bolt).withdrawnSwitch ≠ true ∧ (lock.lock .bolt).state = .stroking ∧
    (lock.lock .bolt).stroke = some .withdraw ∧ (lock.lock .bolt).timer = some 10000 ∧
    (pump.pump .n).runningInput ≠ true ∧ (pump.pump .n).state = .starting ∧ (pump.pump .n).timer = some 8000 := by
  decide +kernel

/-- Both reds of both shipping heads are assigned, and an opening in RAISING calls for the leaves. -/
def unlocks : State :=
  let s := windy (serves .called .raising)
  let red (s : State) (c : ChannelNo) (h : HeadNo) (e : Nat) : State :=
    s.modChannel c fun x => { x with assignment := some { head := h, element := e, standby := false } }
  red (red (red (red s 20 4 0) 22 4 1) 28 5 0) 30 5 1

theorem witness_PairUnlocksAndRecovers :
    let faulty := (setPair .fault State.reset).modPair fun p => { p with cause := some .seatLost }
    State.reset.alive = true ∧ unlocks.alive = true ∧ unlocks.mayUnlock = true ∧ State.reset.mayUnlock = false ∧
    State.reset.motion.pair.state ≠ .fault ∧ faulty.motion.pair.state = .fault ∧ faulty.roadSecured = true ∧
    faulty.motion.estop = false ∧ (faulty.leaf .n).seat = true ∧ (faulty.leaf .s).seat = true ∧
    (∀ k, (faulty.lock k).state = .driven) ∧ ((away faulty).leaf .n).seat = false := by
  refine ⟨rfl, rfl, by decide +kernel, by decide +kernel, by decide, rfl, by decide +kernel, rfl, rfl, rfl, ?_, rfl⟩
  intro k
  cases k <;> rfl

/-- The pair LOCKED with every condition of R118 met, and with one not met. -/
theorem witness_ThePairGoesThroughItsSequences_locked :
    let s := windy (serves .called .raising)
    s.motion.pair.state = .locked ∧ s.book.opening = some (opening .raising [210]) ∧
    (∀ l, (s.lane l).present = false) ∧ s.wind.valid = true ∧ s.wind.reading < s.cfg Entry.windStart ∧
    s.motion.estop = false ∧ (∀ c, (s.channel c).assignment = none) ∧ (pairReaction s).isSome = true ∧
    (pairReaction (windy State.reset)).isNone = true := by decide +kernel

theorem witness_ResumeIsTakenWhenEveryCauseClears :
    let halted := raising.modPair fun p =>
      { p with state := .halted, interrupted := some .raising, halts := { HaltSet.empty with wind := true } }
    let held := (arms .stopped (road .securing)).modGroup 0 fun x => { x with heldStroke := some .down }
    halted.alive = true ∧ halted.motion.estop = false ∧ halted.motion.pair.state = .halted ∧ halted.windCalm = true ∧
    halted.motion.pair.interrupted ≠ some .halted ∧ State.reset.windCalm = false ∧
    held.motion.pair.state ≠ .halted ∧ (held.group 0).heldStroke = some .down := by decide +kernel

/-- Held strokes up with the pair LOCKED and not, and down with the pair HALTED and resumed. -/
theorem witness_ResumeIsTakenWhenEveryCauseClears_arms :
    let s (p : PairState) (stroke : ArmStroke) :=
      setPair p ((arms .stopped (road .securing)).modGroup 0 fun x => { x with heldStroke := some stroke })
    (∀ p stroke, (s p stroke).alive = true ∧ (s p stroke).motion.estop = false ∧
      ((s p stroke).group 0).heldStroke = some stroke ∧ (s p stroke).motion.pair.state = p ∧
      (s p stroke).motion.pair.halts = HaltSet.empty ∧ (s p stroke).window.asked = [] ∧
      (s p stroke).window.queue = []) ∧ ((s .locked .up).group 1).heldStroke = none := by
  refine ⟨fun p stroke => ?_, by decide +kernel⟩
  cases p <;> cases stroke <;> decide +kernel

/-- R71: RESUME asks for the held strokes in group number order. -/
theorem test_resume_asks_in_group_order :
    let hold (g : GroupNo) (s : State) : State := s.modGroup g fun x => { x with heldStroke := some .down }
    (hold 2 (hold 0 State.reset)).resume.window.queue = [0, 2] := by decide +kernel

theorem witness_EstopHoldsEveryStart :
    let s (raw filtered : Bool) : State := { State.reset with motion := { State.reset.motion with
      estopRaw := raw, estop := filtered, estopTimer := some 20 } }
    let t := raising.modPair fun p => { p with channelTimer := some 10000 }
    (s true false).alive = true ∧ (s true false).motion.estopTimer = some 20 ∧ (s true false).motion.estopRaw = true ∧
    (s true false).motion.estop = false ∧ (s false true).motion.estop = true ∧
    t.motion.pair.channelTimer = some 10000 ∧ t.motion.pair.state ≠ .halted := by decide +kernel

theorem witness_MotionPeriodRunsItsTwoStages :
    raising.alive = true ∧ raising.motion.periodTimer = some 20 ∧ State.reset.motion.pair.moving = false ∧
    raising.motion.pair.state ≠ .fault := by decide +kernel

theorem witness_DemandStageDrivesTheLeaves :
    let s := raising.angleStage
    s.motion.pair.state = .raising ∧ s.motion.pair.target = some 7200 ∧ s.motion.period.angleN = some 4211 ∧
    s.motion.period.angleS = some 4004 ∧ s.motion.period.skew = some 207 ∧ 207 < s.cfg Entry.skewTrip ∧
    s.cfg Entry.skewTrip ≤ 400 := by decide +kernel

/-- R148: in RECOVERING in step CREEP after a reset with leaf N unseated. -/
theorem witness_DemandStageDrivesTheLeaves_creep :
    let s := (setPair .recovering State.reset).modPair fun p => { p with step := some .creep }
    let t : State := { s with motion := { s.motion with period := { s.motion.period with angleN := none, skew := none } } }
    t.motion.pair.state = .recovering ∧ t.motion.pair.step = some .creep ∧ t.motion.period.angleN = none ∧
    t.motion.period.skew = none := by decide +kernel

/-- R137: the record's correction is at most 1000 (log entry 41). -/
theorem test_correction_is_at_most_1000 :
    let s := raising.angleStage
    let t : State := { s with site := { s.site with working := s.site.working.set 8 255 } }
    t.demandStage.motion.period.correction = 1000 := by decide +kernel

theorem witness_WindIsCountedInGates :
    let s : State := { State.reset with wind := { State.reset.wind with filter := .qualifying, pulseTimer := some 1 } }
    s.alive = true ∧ s.wind.filter = .qualifying ∧ s.wind.pulseTimer = some 1 ∧ s.wind.gateTimer = some 3000 ∧
    0 < s.cfg Entry.windStart := by decide +kernel

theorem witness_GrantsAreMadeFromTheHeadAndAgeOut :
    let s (r : Requester) : State := { State.reset with window := { queue := [r], grants := [], asked := [] } }
    let t : State := { State.reset with window := { queue := [], grants := [{ stamp := 0, requester := 8 }], asked := [] } }
    State.reset.alive = true ∧ State.reset.window.queue = [] ∧ (s 12).window.queue = [12] ∧
    (s 12).window.grants.length < (s 12).cfg Entry.startLimit ∧ (12 : Requester) = pumpRequester .s ∧
    (8 : Requester) = lockRequester .bolt ∧ (7 : Requester) = groupRequester 7 ∧
    t.window.grants = [{ stamp := 0, requester := 8 }] := by decide +kernel

theorem witness_WriteSiteEntryKeepsTheTableConsistent :
    State.reset.alive = true ∧ (0x6D : Byte).toNat = (109 : EntryNo).val ∧
    entryRange (State.reset.cfg Entry.angleFull) 5 = some (20, 200) ∧
    entryRange (State.reset.cfg Entry.angleFull) 18 = none ∧ ¬(5 : EntryNo).val ≥ 94 ∧ State.reset.atRest = true ∧
    storing.atRest = false ∧
    State.reset.heldDownBars (State.reset.site.working.set 5 60) = false ∧
    State.reset.holdBars (State.reset.site.working.set 5 60) = false ∧ namesExist 5 60 = true ∧
    consistent (State.reset.site.working.set 5 60) = true ∧ consistent (State.reset.site.working.set 15 150) = false ∧
    State.reset.useBars (State.reset.site.working.set 5 60) = false := by decide +kernel

/-- R182, R184: a LEVEL entry written during a store marks the store, and out of rest RESTART is refused BUSY. -/
theorem test_write_during_a_store :
    let t := after (exec (.writeSiteEntry 94 3) storing)
    t.site.store.map (·.dirty) = some true ∧ storing.atRest = false ∧ storing.alive = true := by decide +kernel

theorem witness_StoreAndLoadCopyTheTable :
    let keyed : State := { State.reset with site := { State.reset.site with key := true } }
    State.reset.alive = true ∧ State.reset.site.key = false ∧ keyed.site.key = true ∧ keyed.atRest = true ∧
    storing.atRest = false ∧ storing.site.store.isSome = true := by decide +kernel

theorem witness_StoreAndLoadCopyTheTable_load :
    let timed : State := { State.reset with site := { State.reset.site with keyRaw := true, keyTimer := some 100 } }
    State.reset.alive = true ∧ State.reset.atRest = true ∧ storing.atRest = false ∧
    State.reset.window.grants.length ≤ SiteTable.num State.reset.site.stored Entry.startLimit ∧
    State.reset.heldDownBars State.reset.site.stored = false ∧ State.reset.holdBars State.reset.site.stored = false ∧
    State.reset.useBars State.reset.site.stored = false ∧ timed.site.keyTimer = some 100 := by decide +kernel

theorem witness_EveryCommandKeepsTheStartWindow : Completes .startGrant State.reset := ⟨_, rfl⟩

theorem witness_EveryCommandKeepsTheSiteTable : Completes .loadSiteTable State.reset := ⟨_, rfl⟩

theorem witness_EveryCommandKeepsTheBounds : Completes .gateExpiry State.reset := ⟨_, rfl⟩

theorem witness_EveryCommandKeepsThePassageSlots : Completes .listPassages State.reset := ⟨_, rfl⟩

theorem witness_EveryCommandKeepsThePairRecord :
    State.reset.motion.pair.ok ∧ Completes .pairUnlock State.reset :=
  ⟨by simp only [Pair.ok]; decide, ⟨_, rfl⟩⟩

/-! ### Witnesses: what an act brings about of itself -/

def demand (b : Bool) (s : State) : State := { s with road := { s.road with closureDemand := b } }

def stopped (on : Bool) (s : State) : State := { s with motion := { s.motion with estop := on } }

theorem witness_AnActGoesOnUntilNothingIsLeft :
    reaction State.reset = none ∧
    (∃ t, reaction (holds .hold (road .isOpen)) = some t ∧ 0 < Config.actBound ∧ reaction (settle 0 t) = none) ∧
    (∀ st ∈ ([.awaitUp, .down, .stopped, .awaitDown, .goingUp] : List GroupState),
      let s := arms st (put (passage 210 0 .called) { road .releasing with book := (serves .called .called).book })
      s.book.opening = some (opening .called [210]) ∧ s.road.closureDemand = false ∧ (s.lane 0).state = .releasing ∧
      (s.lane 0).hold = .free ∧ (s.group 0).state = st) ∧
    (∀ st ∈ ([.warning, .closed, .securing, .held] : List LaneState),
      let s := demand true (road st)
      s.book.opening = none ∧ s.motion.pair.state = .locked ∧ s.road.closureDemand = true ∧ (s.lane 0).state = st ∧
      (s.lane 0).hold = .free ∧ (s.group 0).state = .up) ∧
    (let s := demand true (road .closed)
     s.road.deck = .stopped ∧ s.road.closureDemand = true ∧ (s.lane 0).role = .entry ∧
     ∀ l, (s.lane l).present = true → (s.lane l).state = .closed) ∧
    (demand false (road .closed)).road.closureDemand ≠ true := by
  refine ⟨by decide +kernel, ⟨_, rfl, by decide +kernel, by decide +kernel⟩, by decide +kernel, by decide +kernel,
    by decide +kernel, by decide +kernel⟩

/-- The three elements of RW-N are carried by channels 0 to 2, and lane 0 waits in RED. -/
def lanterns : State :=
  let w := (road .warning).modLane 0 fun x => { x with subPhase := some .red }
  ([0, 1, 2] : List (Fin 3)).foldl
    (fun s e => s.modChannel ⟨e.val, by omega⟩ fun x =>
      { x with assignment := some { head := 0, element := e.val, standby := false } }) w

theorem witness_LanesAndGroupsGoThroughTheirSequences :
    (let s := holds .hold (road .isOpen)
     (s.lane 0).present = true ∧ (s.lane 0).state = .isOpen ∧ (s.lane 0).hold ≠ .free ∧ (s.lane 0).kind ≠ .tram ∧
     (s.lane 0).role = .entry ∧ ((demand true (tram .isOpen)).lane 6).kind = .tram) ∧
    (lanterns.lane 0).subPhase = some .red ∧ (lanterns.lane 0).timer = none ∧
    (∀ e : Fin 3, lanterns.lamps.elementStatus (lanterns.lane 0).approach.warningHead e.val ≠ .dark) ∧
    State.reset.lamps.elementStatus 0 0 = .dark ∧ ((tram .clearing).lane 6).timer = none ∧
    ((tram .clearing).lane 6).count = 0 ∧
    (((tram .clearing).modLane 6 fun x => { x with count := 1 }).lane 6).count ≠ 0 ∧
    ((road .clearing).detector ((road .clearing).lane 0).input1).presence = false ∧
    (∀ st, ((arms st (road .securing)).group 0).state = st) ∧ ((road .securing).lane 0).state = .securing ∧
    ((road .releasing).lane 0).state = .releasing ∧ (stopped true (road .securing)).motion.estop = true ∧
    ((holds .holdDown (road .held)).lane 0).hold = .holdDown ∧
    (let s := demand true (setPair .raising (arms .awaitUp (road .releasing)))
     (s.lane 0).state = .releasing ∧ s.road.closureDemand = true ∧ s.motion.pair.state ≠ .locked) ∧
    ∀ l : LaneNo, ((road .isOpen).lane l).group = some 7 → ((road .isOpen).lane l).present = false := by
  refine ⟨by decide +kernel, rfl, rfl, by decide +kernel, by decide +kernel, by decide +kernel, by decide +kernel,
    by decide +kernel, by decide +kernel, fun st => ?_, by decide +kernel, by decide +kernel, rfl, by decide +kernel,
    by decide +kernel, by decide +kernel⟩
  cases st <;> decide +kernel

theorem witness_TheOpeningGoesThroughItsStates :
    (let s := windy twoWait
     s.book.opening = none ∧ s.book.roadTimer = none ∧ s.site.invalid = false ∧ s.motion.pair.state = .locked ∧
     s.wind.valid = true ∧ s.wind.reading < s.cfg Entry.windStart ∧
     s.cfg Entry.callLevel ≤ (s.book.waiting.filter fun t => s.statusOf t == some .ready).length) ∧
    twoWait.wind.valid = false ∧
    (∀ o ∈ ([.called, .raising, .shipping, .lastCall, .lowering, .releasing] : List OpeningState),
      (setPair .fault (serves .called o)).motion.pair.state = .fault ∧
      (setPair .fault (serves .called o)).book.opening = some (opening o [210]) ∧
      (setPair .isOpen (serves .called o)).memberIn .proceed = none) ∧
    (let s := serves .proceed .shipping
     s.motion.pair.state ≠ .isOpen ∧ s.motion.pair.state ≠ .fault ∧ s.memberIn .proceed = some 210) ∧
    (let o := { opening .shipping [210] with joinDeadline := some 0 }
     o.lastCall = false ∧ o.joinDeadline = some 0 ∧ (State.reset.clock.uptime - 0).toNat < 2 ^ 31) ∧
    ((serves .called .called).modOpening fun o => { o with members := [] }).book.opening =
      some (opening .called []) ∧
    (∀ l, State.reset.lane l = State.reset.lane 0) ∧ (State.reset.lane 0).present = false ∧
    (setPair .isOpen State.reset).motion.pair.state = .isOpen ∧ State.reset.motion.pair.state = .locked := by
  decide +kernel

theorem witness_HaltsStopThePairAndResumptionGoesOn :
    (let s := stopped true raising
     s.motion.estop = true ∧ s.motion.pair.state = .raising ∧ s.motion.pair.halts.estop = false) ∧
    (let s := setPair .raising (away State.reset)
     s.motion.estop = false ∧ s.wind.valid = false ∧ s.book.opening = none ∧ s.motion.pair.halts.wind = false) ∧
    (let s := setPair .lowering (away State.reset)
     let t : State := { s with beam := { s.beam with filtered := true } }
     let u := t.modLeaf .n fun x => { x with countValid := false }
     u.beam.filtered = true ∧ u.leafAngle .n = none ∧ u.motion.pair.state = .lowering ∧
     u.motion.pair.halts.channel = false) ∧
    (let s := windy (setPair .raising (road .isOpen))
     s.roadSecured = false ∧ s.wind.valid = true ∧ s.wind.reading < s.cfg Entry.windStop ∧ s.beam.filtered = false ∧
     s.motion.pair.halts.road = false) ∧
    (let s := (setPair .halted (serves .called .lowering)).modPair fun p => { p with halts := { p.halts with wind := true } }
     s.motion.pair.state = .halted ∧ s.motion.pair.halts.wind = true ∧
     s.book.opening = some (opening .lowering [210])) ∧
    (raising.request (lockRequester .bolt)).window.queue = [lockRequester .bolt] ∧
    ((raising.modPump .n fun x => { x with state := .running }).pump .n).state ≠ .off ∧
    (∀ st, ((setPair .halted State.reset).modPair fun p => { p with interrupted := some st }).motion.pair.interrupted =
      some st) ∧
    ((State.reset.modLock .bolt fun x => { x with held := true }).lock .bolt).held = true ∧
    ((State.reset.modPump .n fun x => { x with held := true }).pump .n).held = true ∧
    (State.reset.pump .n).state = .off ∧ (State.reset.pump .s).state = .off := by
  refine ⟨by decide +kernel, by decide +kernel, by decide +kernel, by decide +kernel, by decide +kernel,
    by decide +kernel, by decide +kernel, fun st => rfl, rfl, rfl, rfl, rfl⟩

/-- Every lock withdrawn. -/
def unlocked (s : State) : State :=
  allLocks.foldl (fun s k => s.modLock k fun x => { x with state := .withdrawn }) s

/-- Both pumps running. -/
def pumping (s : State) : State := bothSides.foldl (fun s i => s.modPump i fun x => { x with state := .running }) s

theorem witness_ThePairGoesThroughItsSequences :
    (∀ st, (setPair st State.reset).motion.pair.state = st) ∧ State.reset.book.opening = none ∧
    (serves .called .lowering).book.opening = some (opening .lowering [210]) ∧
    (∀ k, ((unlocked State.reset).lock k).state = .withdrawn) ∧ (∀ k, (State.reset.lock k).state = .driven) ∧
    ((unlocked State.reset).lock .tailN).stroke = none ∧
    ((State.reset.modLock .bolt fun x => { x with state := .stroking }).lock .bolt).state = .stroking ∧
    ((State.reset.modLock .bolt fun x => { x with stroke := some .withdraw }).lock .bolt).stroke ≠ none ∧
    (∀ i, ((pumping State.reset).pump i).state = .running) ∧
    (∀ i, (State.reset.pump i).state = .off ∧ (State.reset.pump i).held = false ∧
      pumpRequester i ∉ State.reset.window.queue) ∧
    (∀ st, (State.reset.modPair fun p => { p with interrupted := some st }).motion.pair.interrupted = some st) ∧
    (∀ i, (State.reset.leaf i).seat = true ∧ ((away State.reset).leaf i).seat = false) ∧
    ∀ r, (State.reset.modPair fun p => { p with step := some r }).motion.pair.step = some r := by
  refine ⟨fun _ => rfl, rfl, by decide +kernel, fun k => ?_, fun k => ?_, rfl, rfl, by decide +kernel, fun i => ?_,
    fun i => ?_, fun _ => rfl, fun i => ?_, fun _ => rfl⟩
  · cases k <;> rfl
  · cases k <;> rfl
  · cases i <;> rfl
  · cases i <;> decide +kernel
  · cases i <;> exact ⟨rfl, rfl⟩

/-- Writes that are taken at rest: an angle, a lane, a channel, START_WINDOW and WIND_START. -/
theorem witness_TableChangesActOnTheBlocks :
    State.reset.alive = true ∧ (0x02 : Byte).toNat = (2 : EntryNo).val ∧ State.reset.writeRefused 2 8000 = none ∧
    State.reset.writeRefused 18 0x4000 = none ∧ State.reset.writeRefused 36 0x0000 = none ∧
    State.reset.writeRefused Entry.startWindow 5 = none ∧ State.reset.writeRefused Entry.windStart 130 = none ∧
    State.reset.site.working[(18 : EntryNo)] ≠ 0x4000 ∧ laneKind 0x4000 = some .road ∧
    laneGroup 0x4000 = some 0 ∧ (State.reset.group 0).state ≠ .down ∧
    ((arms .down State.reset).group 0).state = .down := by decide +kernel

/-- Channel 26 under test. -/
def testing : State :=
  let s := lamp fun x => { x with drive := .test }
  { s with lamps := { s.lamps with underTest := some 26, testTimer := some 50 } }

theorem testing_lampsOk : testing.lampsOk := by
  have others : ∀ c : ChannelNo, c ≠ 26 → testing.channel c = Channel.atReset := by decide +kernel
  have tested : testing.lamps.underTest = some 26 := rfl
  refine ⟨fun _ => ⟨by decide +kernel, fun h => by cases h⟩, fun c => ?_⟩
  by_cases h : c = 26
  · subst h
    have drive : (testing.channel 26).drive = .test := by decide +kernel
    have assigned : (testing.channel 26).assignment = some ⟨4, 3, false⟩ := by decide +kernel
    have state : (testing.channel 26).state = .good := by decide +kernel
    have dark : testing.lamps.wantedLit 4 3 = false := by decide +kernel
    have timers : (testing.channel 26).noCurrent = none ∧ (testing.channel 26).darkCurrent = none := by decide +kernel
    simp [drive, assigned, state, dark, timers.1, timers.2, tested]
  · have other : ¬testing.lamps.underTest = some c := by rw [tested]; simpa using fun e => h e.symm
    rw [others c h]
    simp [Channel.atReset, other]

theorem witness_EveryCommandKeepsTheLampUnit :
    testing.lampsOk ∧ Completes .testPulseEnd testing ∧ mayReset .testPulseEnd = false ∧ 3 < elementCount 4 ∧
    testing.lamps.elementStatus 4 3 ≠ .dark ∧
    (after (exec .testPulseEnd testing)).lamps.elementStatus 4 3 = .dark :=
  ⟨testing_lampsOk, ⟨_, rfl⟩, rfl, by decide, by decide +kernel, by decide +kernel⟩

/-- The conditions of the tables of R45 and R73, each met. -/
theorem witness_EveryCommandKeepsTheLampUnit_aspects :
    (setPair .fault State.reset).motion.pair.state = .fault ∧
    (setPair .recovering State.reset).motion.pair.state = .recovering ∧
    State.reset.site.invalid = false ∧ State.reset.motion.pair.state = .locked ∧
    (serves .proceed .shipping).memberIn .proceed = some 210 ∧
    (serves .proceed .shipping).passage 210 = some (passage 210 0 .proceed) ∧
    (passage 210 0 .proceed).direction = .seaward ∧ (serves .called .called).members.head? = some 210 ∧
    (serves .called .called).passage 210 = some (passage 210 0 .called) ∧
    State.reset.memberIn .proceed = none ∧ State.reset.members.head? = none ∧
    (∀ st, ((road st).lane 0).present = true ∧ ((road st).lane 0).approach = .north ∧ ((road st).lane 0).kind ≠ .tram ∧
      ((road st).lane 0).role = .entry ∧ ((road st).lane 0).state = st) ∧
    (lanterns.lane 0).state = .warning ∧ (lanterns.lane 0).subPhase = some .red ∧
    (let s := (road .warning).modLane 0 fun x => { x with subPhase := some .amber }
     (s.lane 0).state = .warning ∧ (s.lane 0).subPhase = some .amber) ∧
    (∀ l, (State.reset.lane l).present = false) ∧
    (∀ st, ((tram st).lane 6).present = true ∧ ((tram st).lane 6).approach = .north ∧ ((tram st).lane 6).kind = .tram ∧
      ((tram st).lane 6).state = st) ∧
    (0 : GroupNo).val + 6 = (6 : HeadNo).val ∧ ((arms .up State.reset).group 0).state = .up ∧
    ((arms .goingDown State.reset).group 0).state ≠ .up := by
  refine ⟨rfl, rfl, rfl, rfl, by decide +kernel, by decide +kernel, rfl, by decide +kernel, by decide +kernel,
    by decide +kernel, by decide +kernel, fun st => ?_, by decide +kernel, by decide +kernel, by decide +kernel,
    by decide +kernel, fun st => ?_, by decide +kernel, by decide +kernel, by decide +kernel⟩ <;>
  cases st <;> decide +kernel

/-- R45, R73: with a SEAWARD head member CALLED, SH-SEA asks for PREPARE and SH-LAND for PROHIBIT; a lane in RED asks
for RED_FLASH. -/
theorem test_aspects :
    let s := serves .called .called
    (s.aspectFor 4, s.aspectFor 5, lanterns.aspectFor 0) = (.prepare, .prohibit, .redFlash) := by decide +kernel

end Sys2Proof.Tests
end

section
/-! SUPPORT. What a write to a lamp channel, the unit's failures, its events and its commands make of the state: the
rules that the statements of the lamp unit are assembled from (Section 5). -/

namespace Sys2Proof.Machine

/-! ### Channel records written twice, and alike -/

theorem State.modChannel_modChannel (s : State) (c : ChannelNo) (f g : Channel → Channel) :
    (s.modChannel c f).modChannel c g = s.modChannel c fun x => g (f x) := by
  simp [State.modChannel, modEntry]

/-- Only what a write makes of the record that stands there matters. -/
theorem State.modChannel_congr {s : State} {c : ChannelNo} {f g : Channel → Channel}
    (h : f (s.channel c) = g (s.channel c)) : s.modChannel c f = s.modChannel c g := by
  have h' : f s.lamps.channels[c] = g s.lamps.channels[c] := h
  simp only [State.modChannel, modEntry, h']

/-- A byte names the record whose number it holds. -/
theorem finOf_eq_some {n : Nat} {b : Byte} {i : Fin n} (h : b.toNat = i.val) : finOf n b = some i := by
  simp [finOf, h]

/-! ### Failures (R105 to R107) -/

@[simp] theorem State.raiseDark_lamps (s : State) (before : Lamps) : (s.raiseDark before).lamps = s.lamps :=
  State.raiseIf_lamps _ _ _

@[simp] theorem State.raiseDark_clock (s : State) (before : Lamps) : (s.raiseDark before).clock = s.clock :=
  State.raiseIf_clock _ _ _

/-- A channel that has entered a failed state: off, untimed and counted up to 15 (R96, R97, R105). -/
def Channel.failed (x : Channel) (stuck : Bool) : Channel :=
  { x with
    state := if stuck then .failedStuck else .failedOpen
    drive := .off
    noCurrent := none
    darkCurrent := none
    failures := min 15 (x.failures + 1) }

/-- A failure touches the lamp unit and the link alone. -/
theorem State.channelFails_frame (s : State) (c : ChannelNo) (stuck : Bool) :
    { s.channelFails c stuck with lamps := s.lamps, link := s.link } = s := by
  rw [State.channelFails, State.raiseDark]
  generalize newlyDark _ _ = dark
  cases dark <;> rfl

@[simp] theorem State.channelFails_clock (s : State) (c : ChannelNo) (stuck : Bool) :
    (s.channelFails c stuck).clock = s.clock := by
  simp [State.channelFails]

theorem State.channelFails_lamps (s : State) (c : ChannelNo) (stuck : Bool) :
    (s.channelFails c stuck).lamps =
      { (s.modChannel c (·.failed stuck)).lamps with
        firstFailure :=
          s.lamps.firstFailure <|> some { channel := c, stuck := stuck, time := s.clock.uptime } } := by
  simp [State.channelFails, Channel.failed]

theorem State.channelFails_channel (s : State) (c d : ChannelNo) (stuck : Bool) :
    (s.channelFails c stuck).channel d = if d = c then (s.channel c).failed stuck else s.channel d := by
  rw [State.channel, State.channelFails_lamps]
  exact s.modChannel_channel c d _

/-- LAMP_FAILED is factor 7, and HEAD_DARK, raised after it, takes no factor away. -/
theorem State.channelFails_raises (s : State) (c : ChannelNo) (stuck : Bool) :
    (s.channelFails c stuck).link.factors.getLsbD 7 = true := by
  have lampFailed (t : State) : (t.raise .lampFailed).link.factors.getLsbD 7 = true := by
    simp [Factor.bit, Factor.number]
  have kept (t : State) (b : Bool) (h : t.link.factors.getLsbD 7 = true) :
      (t.raiseIf b .headDark).link.factors.getLsbD 7 = true := by
    cases b <;> simp [State.raiseIf, h]
  exact kept _ _ (lampFailed _)

/-! ### Events (R94, R96 to R100) -/

theorem exec_flashPhaseChange {s : State} {due : Nat} (ha : s.alive = true) (ht : s.lamps.flashTimer = some due) :
    exec .flashPhaseChange s = .next (State.lampStage { s.reach due with
      lamps := { s.lamps with
        phaseB := !s.lamps.phaseB, flashTimer := some (due + 30000 / s.cfg Entry.flashRate) } }) := by
  change execFlashPhaseChange s = _
  rw [execFlashPhaseChange, act_alive ha, ht, State.expire_some, State.turnPhase, State.reach_lamps, ht]
  rfl

theorem exec_periodicProvingExpiry {s : State} {due : Nat} (ha : s.alive = true)
    (ht : s.lamps.periodicTimer = some due) :
    exec .periodicProvingExpiry s = .next (State.lampStage { s.reach due with
      lamps := { s.lamps with periodicTimer := some (due + 60000), proving := s.lamps.proving ++ s.passed } }) := by
  change execPeriodicProvingExpiry s = _
  rw [execPeriodicProvingExpiry, act_alive ha, ht, State.expire_some, State.restartPeriodic, State.reach_lamps, ht]
  rfl

/-- A change of a channel's sense is read, then the channel's timers turn by its drive. -/
theorem exec_currentSenseChange {s : State} {c : ChannelNo} {present : Bool} (ha : s.alive = true)
    (hs : (s.channel c).sense ≠ present) :
    exec (.currentSenseChange c present) s =
      .next (s.modChannel c fun x => { x with sense := present }.senseTurns s) := by
  change execCurrentSenseChange c present s = _
  rw [execCurrentSenseChange, beq_false_of_ne hs, pin_turned, if_pos ha, State.setSense, State.modChannel_modChannel]
  rfl

theorem exec_currentSenseChange_same {s : State} {c : ChannelNo} {present : Bool}
    (hs : (s.channel c).sense = present) : exec (.currentSenseChange c present) s = .next s := by
  change execCurrentSenseChange c present s = _
  rw [execCurrentSenseChange, beq_iff_eq.mpr hs, pin_same]

theorem exec_noCurrentExpiry {s : State} {c : ChannelNo} {due : Nat} (ha : s.alive = true)
    (ht : (s.channel c).noCurrent = some due) :
    exec (.noCurrentExpiry c) s = .next ((s.reach due).channelFails c false).finish := by
  change execNoCurrentExpiry c s = _
  rw [execNoCurrentExpiry, act_alive ha, ht, State.expire_some]

theorem exec_darkCurrentExpiry {s : State} {c : ChannelNo} {due : Nat} (ha : s.alive = true)
    (ht : (s.channel c).darkCurrent = some due) :
    exec (.darkCurrentExpiry c) s = .next ((s.reach due).channelFails c true).finish := by
  change execDarkCurrentExpiry c s = _
  rw [execDarkCurrentExpiry, act_alive ha, ht, State.expire_some]

theorem exec_testPulseEnd {s : State} {c : ChannelNo} {due : Nat} (ha : s.alive = true)
    (hu : s.lamps.underTest = some c) (ht : s.lamps.testTimer = some due) :
    exec .testPulseEnd s = .next ((s.reach due).endTest.verdict c).finish := by
  change execTestPulseEnd s = _
  rw [execTestPulseEnd, act_alive ha, ht, State.expire_some, State.reach_lamps, hu]

/-! ### The verdict of a test (R99) -/

theorem State.verdict_of_current (s : State) {c : ChannelNo} (h : (s.channel c).sense = true) :
    s.verdict c = s.modChannel c fun x =>
      { x with
        state := .good, drive := .off, noCurrent := none
        darkCurrent := if x.assignment.isSome && x.state != .failedStuck then s.inMs 300 else none } := by
  rw [State.verdict, if_pos h]
  exact State.modChannel_congr (by simp [Channel.darken, Channel.darkTimer, h])

theorem State.verdict_of_good (s : State) {c : ChannelNo} (h : (s.channel c).sense = false)
    (hg : (s.channel c).state = .good) : s.verdict c = s.channelFails c false := by
  simp [State.verdict, h, hg]

theorem State.verdict_of_failed (s : State) {c : ChannelNo} (h : (s.channel c).sense = false)
    (hg : (s.channel c).state ≠ .good) :
    s.verdict c = s.modChannel c fun x => { x with drive := .off, noCurrent := none, darkCurrent := none } := by
  have dark : s.verdict c = s.modChannel c (·.darken s) := by simp [State.verdict, h, hg]
  rw [dark]
  exact State.modChannel_congr (by simp [Channel.darken, Channel.darkTimer, h])

/-! ### Commands (R101, R108, R109) -/

theorem exec_proveHead {s : State} {b : Byte} {h : HeadNo} (ha : s.alive = true) (hb : b.toNat = h.val) :
    exec (.proveHead b) s = .next ((s.placeFirst (s.provedChannels h)).lampStage.respond .accepted
      [byteOf (s.provedChannels h).length]) := by
  change execProveHead b s = _
  rw [execProveHead, act_alive ha, finOf_eq_some hb]

theorem exec_clearLampCounts {s : State} (ha : s.alive = true) :
    exec .clearLampCounts s = .next s.clearCounts.accept := by
  change execClearLampCounts s = _
  rw [execClearLampCounts, act_alive ha]

theorem State.clearCounts_channel (s : State) (c : ChannelNo) :
    s.clearCounts.channel c = { s.channel c with failures := 0 } := mapTable_get _ _ _ c.isLt

theorem Channel.clearRefused_eq_false_iff (x : Channel) :
    x.clearRefused = false ↔ x.assignment ≠ none ∧ x.state = .failedStuck ∧ x.sense = false := by
  simp only [Channel.clearRefused, Bool.or_eq_false_iff, Option.isNone_eq_false_iff, Option.isSome_iff_ne_none,
    bne_eq_false_iff_eq, and_assoc]

theorem Channel.clearRefused_iff (x : Channel) :
    x.clearRefused = true ↔ ¬(x.assignment ≠ none ∧ x.state = .failedStuck ∧ x.sense = false) := by
  rw [← x.clearRefused_eq_false_iff, Bool.not_eq_false]

theorem exec_clearLampFailure {s : State} {b : Byte} {c : ChannelNo} (ha : s.alive = true) (hb : b.toNat = c.val) :
    exec (.clearLampFailure b) s =
      .next (if (s.channel c).clearRefused then s.refuse .notPermitted else (s.clearStuck c).finish.accept) := by
  change execClearLampFailure b s = _
  rw [execClearLampFailure, act_alive ha, finOf_eq_some hb]

theorem State.clearStuck_eq (s : State) (c : ChannelNo) :
    s.clearStuck c =
      (s.modChannel c fun x => { x with state := .good, drive := .off, darkCurrent := none }).setProving
        (c :: s.lamps.proving.filter (· ≠ c)) := by
  simp [State.clearStuck, State.placeFirst]

end Sys2Proof.Machine
end

section
/-! PROOF. The statements of the lamp unit (Section 5), assembled from the rules of its events and commands. -/

namespace Sys2Proof.Machine

/-- `u` is `s` at the moment `due` with channel `c` failed, counted and recorded, with LAMP_FAILED raised and, where
`test` says that a test found it, with no channel under test (R96, R97, R99, R105 to R107). -/
def FailureFound (s u : State) (c : ChannelNo) (due : Nat) (stuck test : Bool) : Prop :=
  u.clock = { s.clock with now := max s.clock.now due } ∧
  { u with clock := s.clock, lamps := s.lamps, link := s.link } = s ∧
  u.channel c = (s.channel c).failed stuck ∧
  (∀ d, d ≠ c → u.channel d = s.channel d) ∧
  (s.lamps.firstFailure = none →
    u.lamps.firstFailure = some { channel := c, stuck := stuck, time := s.clock.uptime }) ∧
  (s.lamps.firstFailure ≠ none → u.lamps.firstFailure = s.lamps.firstFailure) ∧
  u.lamps.proving = s.lamps.proving ∧ (test = true → u.lamps.underTest = none ∧ u.lamps.testTimer = none) ∧
  u.link.factors.getLsbD 7 = true

/-- A failure in a state `r` that differs from `s` in its moment and in a test that may have ended. -/
theorem channelFails_found {s r : State} (c : ChannelNo) (due : Nat) (stuck test : Bool)
    (clock : r.clock = { s.clock with now := max s.clock.now due })
    (rest : { r with clock := s.clock, lamps := s.lamps } = s)
    (lamps : { r.lamps with underTest := s.lamps.underTest, testTimer := s.lamps.testTimer } = s.lamps)
    (ended : test = true → r.lamps.underTest = none ∧ r.lamps.testTimer = none) :
    FailureFound s (r.channelFails c stuck) c due stuck test := by
  have channel (d : ChannelNo) : r.channel d = s.channel d := congrArg (·.channels[d]) lamps
  have first : r.lamps.firstFailure = s.lamps.firstFailure := congrArg (·.firstFailure) lamps
  have proving : r.lamps.proving = s.lamps.proving := congrArg (·.proving) lamps
  refine ⟨by rw [State.channelFails_clock, clock], ?_, ?_, fun d hd => ?_, fun h => ?_, fun h => ?_, ?_, fun h => ?_,
    r.channelFails_raises c stuck⟩
  · calc
      _ = { ({ r.channelFails c stuck with lamps := r.lamps, link := r.link } : State) with
            clock := s.clock, lamps := s.lamps, link := s.link } := rfl
      _ = { ({ r with clock := s.clock, lamps := s.lamps } : State) with link := s.link } := by
        rw [State.channelFails_frame]
      _ = s := by rw [rest]
  · rw [State.channelFails_channel, if_pos rfl, channel]
  · rw [State.channelFails_channel, if_neg hd, channel]
  · simp [State.channelFails_lamps, first, h, clock]
  · obtain ⟨f, hf⟩ := Option.ne_none_iff_exists'.mp h
    simp [State.channelFails_lamps, first, hf]
  · rw [State.channelFails_lamps]
    exact proving
  · rw [State.channelFails_lamps]
    exact ended h

/-- Settles O39: each event is the failure of its channel or the verdict of its test, after the clock has come to the
timer's moment. -/
theorem lampFailuresAreFound : Obligations.LampFailuresAreFound := by
  intro s c due ha
  refine ⟨fun ht => ⟨_, exec_noCurrentExpiry ha ht, ?_⟩, fun ht => ⟨_, exec_darkCurrentExpiry ha ht, ?_⟩,
    fun hu ht => ?_⟩
  · exact channelFails_found c due false false rfl rfl rfl nofun
  · exact channelFails_found c due true false rfl rfl rfl nofun
  · have ended := exec_testPulseEnd ha hu ht
    refine ⟨fun hs hg => ⟨(s.reach due).endTest.channelFails c false, ?_, ?_⟩, fun hs hg => ?_, fun hs => ?_⟩
    · rw [ended, State.verdict_of_good (s.reach due).endTest hs hg]
    · exact channelFails_found c due false true rfl rfl rfl fun _ => ⟨rfl, rfl⟩
    · rw [ended, State.verdict_of_failed (s.reach due).endTest hs hg]
      rfl
    · rw [ended, State.verdict_of_current (s.reach due).endTest hs]
      rfl

/-- Settles O38: each event and command by its own rule; the sense by the three drives, CLEAR LAMP FAILURE by its
refusal. -/
theorem lampTimersProvingAndClearing : Obligations.LampTimersProvingAndClearing := by
  refine ⟨fun s ha => ⟨?_, ?_, ?_, fun c present => ⟨exec_currentSenseChange_same, fun hs => ?_⟩⟩,
    fun s ha => ⟨⟨_, exec_clearLampCounts ha, rfl, s.clearCounts_channel, rfl, rfl, rfl⟩, fun b c hb => ⟨?_, ?_⟩⟩⟩
  · exact fun due ht => exec_flashPhaseChange ha ht
  · exact fun due ht => exec_periodicProvingExpiry ha ht
  · exact fun b h hb => exec_proveHead ha hb
  · rw [exec_currentSenseChange ha hs]
    refine congrArg _ (State.modChannel_congr ?_)
    unfold Channel.senseTurns Channel.darkTimer State.inMs
    cases (s.channel c).drive <;> rfl
  · intro h
    rw [exec_clearLampFailure ha hb, if_pos ((s.channel c).clearRefused_iff.mpr h)]
  · intro h
    have granted : ¬(s.channel c).clearRefused = true := fun hr => (s.channel c).clearRefused_iff.mp hr h
    rw [exec_clearLampFailure ha hb, if_neg granted, State.clearStuck_eq]
    rfl

end Sys2Proof.Machine
end

section
/-! SUPPORT. The Wind Monitor (Section 8): when a list of gate values reads high, and what its events make of the
state. -/

namespace Sys2Proof.Machine

/-! ### The reading and the wind-high condition (R155, R157) -/

/-- The largest of a list, folded from a start, reaches a bound just where the start or a member does. -/
theorem le_foldl_max_iff {m : Nat} : ∀ (l : List Nat) (a : Nat), m ≤ l.foldl max a ↔ m ≤ a ∨ ∃ g ∈ l, m ≤ g
  | [], a => by simp only [List.foldl_nil, List.not_mem_nil, false_and, exists_false, or_false]
  | x :: l, a => by
    have le_max : m ≤ max a x ↔ m ≤ a ∨ m ≤ x := by omega
    simp only [List.foldl_cons, le_foldl_max_iff l, le_max, List.mem_cons, exists_eq_or_imp, or_assoc]

/-- The reading is 0 with no gate value kept, so the bound is above 0. -/
theorem Wind.le_reading_iff {m : Nat} (w : Wind) (hm : 0 < m) : m ≤ w.reading ↔ ∃ g ∈ w.gates, m ≤ g := by
  rw [Wind.reading, le_foldl_max_iff, or_iff_right (Nat.not_le.mpr hm)]

theorem State.windHighNow_iff {s : State} (hm : 0 < s.cfg Entry.windStart) :
    s.windHighNow = true ↔ s.wind.gates.length = 4 ∧ ∃ g ∈ s.wind.gates, s.cfg Entry.windStart ≤ g := by
  simp only [State.windHighNow, Wind.valid, Bool.and_eq_true, beq_iff_eq, decide_eq_true_eq, s.wind.le_reading_iff hm]

@[simp] theorem State.testWindHigh_clock (s : State) : s.testWindHigh.clock = s.clock := State.raiseIf_clock _ _ _

@[simp] theorem State.testWindHigh_wind (s : State) :
    s.testWindHigh.wind = { s.wind with high := s.windHighNow } := State.raiseIf_wind _ _ _

/-- The factor is raised as the condition passes from false to true. -/
theorem State.testWindHigh_link (s : State) :
    s.testWindHigh.link =
      if s.windHighNow = true ∧ s.wind.high = false then (s.raise .windHigh).link else s.link := by
  unfold State.testWindHigh
  cases s.windHighNow <;> cases s.wind.high <;> rfl

/-- The test touches the monitor and the link alone. -/
theorem State.testWindHigh_frame (s : State) : { s.testWindHigh with wind := s.wind, link := s.link } = s := by
  unfold State.testWindHigh
  cases s.windHighNow && !s.wind.high <;> rfl

/-- WIND_HIGH is factor 11. -/
theorem State.raise_windHigh_bit (s : State) : (s.raise .windHigh).link.factors.getLsbD 11 = true := by
  simp [Factor.bit, Factor.number]

/-! ### The end of a gate (R153 to R155) -/

/-- Gates follow one another without a gap. -/
theorem State.endGate_gateTimer {s : State} {due : Nat} (ht : s.wind.gateTimer = some due) :
    s.endGate.wind.gateTimer = some (due + 3000) := by
  simp [State.endGate, ht]

/-! ### The pulse filter (R152) -/

/-- A turn to active starts the 1 ms from IDLE. -/
theorem State.windFiltered_starts {s : State} (hf : s.wind.filter = .idle) :
    (s.setWindRaw true).windFiltered = { s with wind := { s.wind with
      raw := true, filter := .qualifying, pulseTimer := some (s.clock.now + 1) } } := by
  simp [State.windFiltered, State.setWindRaw, State.inMs, hf]

/-- A turn to inactive returns the filter to IDLE. -/
theorem State.windFiltered_returns {s : State} (hf : s.wind.filter ≠ .idle) :
    (s.setWindRaw false).windFiltered = { s with wind := { s.wind with
      raw := false, filter := .idle, pulseTimer := none } } := by
  cases h : s.wind.filter with
  | idle => exact absurd h hf
  | qualifying => simp [State.windFiltered, State.setWindRaw, h]
  | counted => simp [State.windFiltered, State.setWindRaw, h]

/-- A filter that is in IDLE at a turn to inactive, or out of it at a turn to active, stays where it is. -/
theorem State.windFiltered_stays {s : State} {active : Bool} (hf : s.wind.filter = .idle ↔ active = false) :
    (s.setWindRaw active).windFiltered = s.setWindRaw active := by
  cases active with
  | false => simp [State.windFiltered, State.setWindRaw, hf.mpr rfl]
  | true =>
    cases h : s.wind.filter with
    | idle => exact absurd (hf.mp h) nofun
    | qualifying => simp [State.windFiltered, State.setWindRaw, h]
    | counted => simp [State.windFiltered, State.setWindRaw, h]

/-! ### Events (R152, R153) -/

theorem exec_anemometerInputChange_same {s : State} {active : Bool} (hr : s.wind.raw = active) :
    exec (.anemometerInputChange active) s = .next s := by
  change execAnemometerInputChange active s = _
  rw [execAnemometerInputChange, beq_iff_eq.mpr hr, pin_same]

theorem exec_anemometerInputChange {s : State} {active : Bool} (ha : s.alive = true) (hr : s.wind.raw ≠ active) :
    exec (.anemometerInputChange active) s = .next (s.setWindRaw active).windFiltered := by
  change execAnemometerInputChange active s = _
  rw [execAnemometerInputChange, beq_false_of_ne hr, pin_turned, if_pos ha]

theorem exec_anemometerPulse {s : State} {due : Nat} (ha : s.alive = true) (hf : s.wind.filter = .qualifying)
    (ht : s.wind.pulseTimer = some due) : exec .anemometerPulse s = .next (s.reach due).countWindPulse := by
  change execAnemometerPulse s = _
  rw [execAnemometerPulse, act_alive ha, hf, ht, State.expire_some]
  rfl

theorem exec_gateExpiry {s : State} {due : Nat} (ha : s.alive = true) (ht : s.wind.gateTimer = some due) :
    exec .gateExpiry s = .next (s.reach due).endGate.testWindHigh.finish := by
  change execGateExpiry s = _
  rw [execGateExpiry, act_alive ha, ht, State.expire_some]

end Sys2Proof.Machine
end

section
/-! PROOF. The statement of the Wind Monitor (Section 8), assembled from the rules of its events. -/

namespace Sys2Proof.Machine

/-- Settles O50: each event by its own rule; a gate's end is the new gate record and then the wind-high test, whose
reading reaches WIND_START where one of the four gates does. -/
theorem windIsCountedInGates : Obligations.WindIsCountedInGates := by
  intro s ha
  refine ⟨fun active => ?_, fun due hf ht => exec_anemometerPulse ha hf ht, fun due ht => ?_⟩
  · by_cases hr : s.wind.raw = active
    · rw [exec_anemometerInputChange_same hr, if_pos hr]
    · rw [exec_anemometerInputChange ha hr, if_neg hr]
      cases hf : s.wind.filter <;> cases active
      case neg.idle.true => rw [State.windFiltered_starts hf]
      case neg.qualifying.false => rw [State.windFiltered_returns (by simp [hf])]
      case neg.counted.false => rw [State.windFiltered_returns (by simp [hf])]
      all_goals
        rw [State.windFiltered_stays (by simp [hf]), State.setWindRaw]
        simp only [hf]
  · intro value gates high
    refine ⟨_, exec_gateExpiry ha ht, State.testWindHigh_clock _, ?_, ?_⟩
    · exact congrArg (fun u : State => { u with clock := s.clock, wind := s.wind, link := s.link })
        (s.reach due).endGate.testWindHigh_frame
    · rw [State.testWindHigh_wind, State.testWindHigh_link]
      refine ⟨rfl, rfl, State.endGate_gateTimer (s := s.reach due) ht, rfl, rfl, rfl, fun hm => ?_⟩
      have now_iff : (s.reach due).endGate.windHighNow = true ↔ high :=
        State.windHighNow_iff (s := (s.reach due).endGate) hm
      refine ⟨now_iff, fun h hw => ?_, fun h => if_neg fun ⟨hnow, hw⟩ => ?_⟩
      · rw [if_pos ⟨now_iff.mpr h, hw⟩, State.raise_windHigh_bit]
      · exact h.elim (· (now_iff.mp hnow)) (Bool.eq_false_iff.mp hw)

end Sys2Proof.Machine
end
